-- ==== Sys2Proof/Word.lean ====
section
/-! DEFINITION. The plain types the whole model is written in: bytes, the numbered things of the shelf,
and tables indexed by them. -/

namespace Sys2Proof

/-- One byte of a frame or of the configuration image. -/
abbrev Byte := BitVec 8

/-- A working port P0–P15. -/
abbrev Port := Fin 16

/-- A spare S0–S3. -/
abbrev Spare := Fin 4

/-- A receiver of the monitor link, 0–19: 0–15 for P0–P15, 16–19 for S0–S3. -/
abbrev Recv := Fin 20

/-- A station number of the bay line. -/
abbrev Station := Fin 32

/-- A timing candidate in the fixed order OCA, OCB, LN0, LN1, LN2, LN3, BAY (R138). -/
abbrev Cand := Fin 7

/-- The entry of a table at an index. -/
def tget {α : Type} {n : Nat} (v : Vector α n) (i : Fin n) : α := v[i.val]'i.isLt

/-- A table with the entry at one index replaced. -/
def tset {α : Type} {n : Nat} (v : Vector α n) (i : Fin n) (x : α) : Vector α n := v.set i.val x i.isLt

/-- The table of a function's values. -/
def tab {α : Type} {n : Nat} (f : Fin n → α) : Vector α n := Vector.ofFn f

/-- The table with one value everywhere. -/
def tconst {α : Type} (n : Nat) (x : α) : Vector α n := Vector.replicate n x

/-- The indices of a table in rising order. -/
def idx (n : Nat) : List (Fin n) := List.finRange n

theorem tget_tset {α : Type} {n : Nat} (v : Vector α n) (i j : Fin n) (x : α) :
    tget (tset v i x) j = if i = j then x else tget v j := by
  unfold tget tset
  by_cases h : i = j
  · subst h; simp
  · have h' : i.val ≠ j.val := fun e => h (Fin.ext e)
    simp [h, h']

@[simp] theorem tget_tset_same {α : Type} {n : Nat} (v : Vector α n) (i : Fin n) (x : α) :
    tget (tset v i x) i = x := by simp [tget_tset]

theorem tget_tset_ne {α : Type} {n : Nat} (v : Vector α n) {i j : Fin n} (h : i ≠ j) (x : α) :
    tget (tset v i x) j = tget v j := by simp [tget_tset, h]

@[simp] theorem tget_tab {α : Type} {n : Nat} (f : Fin n → α) (i : Fin n) : tget (tab f) i = f i := by
  simp [tget, tab]

@[simp] theorem tget_tconst {α : Type} {n : Nat} (x : α) (i : Fin n) : tget (tconst n x) i = x := by
  simp [tget, tconst]

@[simp] theorem mem_idx {n : Nat} (i : Fin n) : i ∈ idx n := List.mem_finRange i

end Sys2Proof
end

