-- ==== Sys2Proof/Config.lean ====
section
/-! DEFINITION. The configuration: the image as the memory holds it (13.2), the values in force after the
settling, the default image, and the constants the manual leaves open. -/

namespace Sys2Proof

/-- A port's spare group map (R68): the spares it may use (bit s for Ss) and where its search starts. -/
structure GroupMap where
  mask  : BitVec 4
  start : Spare
deriving DecidableEq, Repr

/-- The configuration image as read, field by field (13.2). The widths are those that hold the ranges and the
values the rules replace; the places of the fields in the memory are "of the part's own" (log 8). -/
structure RawImage where
  site       : Byte
  used       : BitVec 16
  maps       : Vector GroupMap 16
  failThr    : Byte
  degThr     : Byte
  hyst       : Byte
  soak       : BitVec 16
  maskSet    : Fin 4
  holdoff    : Byte
  wtr        : Byte
  timConseq  : Bool
  autoLearn  : Bool
  recovery   : Fin 4
  latch      : Vector Bool 23
  kindMask   : Vector Bool 23
  prio       : Vector (BitVec 4) 7
  ql         : Vector Byte 6
  nominated  : Vector (Option Port) 4
  upstream   : Option Station
  revertive  : Bool
  accept     : BitVec 11
  reject     : BitVec 11
  hoQl       : Byte
  hoLimit    : Byte
  squelchMin : Byte
  slew       : Byte
  tb1        : BitVec 16
  tb2        : BitVec 16
  m1         : BitVec 8
  m2         : BitVec 8
  m3         : BitVec 8
deriving DecidableEq, Repr

/-- The configuration in force: every field as its rule settles it (R9, R68, R115, R130, R148, R164), with the
two clear levels of R7 and R8, computed once at load (R9). -/
structure Config where
  site       : Byte
  used       : BitVec 16
  maps       : Vector GroupMap 16
  failThr    : Nat
  degThr     : Nat
  failClear  : Nat
  degClear   : Nat
  soak       : Nat
  maskSet    : Fin 4
  /-- Hold-off in steps of 100 ms (R68). -/
  holdoff    : Nat
  /-- WTR time in minutes (R68). -/
  wtr        : Nat
  timConseq  : Bool
  autoLearn  : Bool
  recovery   : Fin 4
  latch      : Vector Bool 23
  kindMask   : Vector Bool 23
  prio       : Vector Nat 7
  ql         : Vector Nat 6
  nominated  : Vector (Option Port) 4
  upstream   : Option Station
  revertive  : Bool
  accept     : Nat
  reject     : Nat
  hoQl       : Nat
  /-- Holdover limit in hours, 0 for none (R130). -/
  hoLimit    : Nat
  squelchMin : Nat
  slew       : Nat
  tb1        : Nat
  tb2        : Nat
  m1         : Int
  m2         : Int
  m3         : Int
deriving DecidableEq, Repr

/-- The default image of the table in 13.2, with the defaults of R9, R68, R115, R130, R148 and R164. -/
def RawImage.default : RawImage where
  site := 0
  used := BitVec.allOnes 16
  maps := tab fun p => ⟨BitVec.allOnes 4, ⟨p.val % 4, Nat.mod_lt _ (by decide)⟩⟩
  failThr := 40
  degThr := 60
  hyst := 4
  soak := 250
  maskSet := 0
  holdoff := 0
  wtr := 5
  timConseq := false
  autoLearn := true
  recovery := 1
  latch := tconst 23 false
  kindMask := tconst 23 false
  prio := tab fun c => if c = 0 then 1 else if c = 1 then 2 else 0
  ql := tab fun c => if c.val < 2 then 3 else 4
  nominated := tconst 4 none
  upstream := none
  revertive := false
  accept := 115
  reject := 150
  hoQl := 5
  hoLimit := 24
  squelchMin := 5
  slew := 4
  tb1 := 160
  tb2 := 320
  m1 := 0
  m2 := 0
  m3 := 0

/-- The default image as it stands in force (13.2, R9, R68, R115, R130, R148). "The default image needs no
replacement" (R201). -/
def Config.default : Config where
  site := 0
  used := BitVec.allOnes 16
  maps := RawImage.default.maps
  failThr := 40
  degThr := 60
  failClear := 44
  degClear := 64
  soak := 250
  maskSet := 0
  holdoff := 0
  wtr := 5
  timConseq := false
  autoLearn := true
  recovery := 1
  latch := tconst 23 false
  kindMask := tconst 23 false
  prio := tab fun c => if c.val = 0 then 1 else if c.val = 1 then 2 else 0
  ql := tab fun c => if c.val < 2 then 3 else 4
  nominated := tconst 4 none
  upstream := none
  revertive := false
  accept := 115
  reject := 150
  hoQl := 5
  hoLimit := 24
  squelchMin := 5
  slew := 4
  tb1 := 160
  tb2 := 320
  m1 := 0
  m2 := 0
  m3 := 0

/-- DESIGN CHOICE (log 9), a FREE VALUE: what a holdover QL field of 0 is replaced by at load, less 2. R130 says
what becomes of 1 and of values above 6 and is silent on 0; the range 2–6 bounds the value, and nothing else
constrains it. -/
opaque Config.holdoverQlOfZero : Fin 5

end Sys2Proof
end

