-- ==== Sys2Proof/Syntax.lean ====
section
/-! DEFINITION. The commands: one constructor of Instr per row of spec/opcode_table.json, with the inputs the
part takes at that event, and the types of those inputs. -/

namespace Sys2Proof

/-- The 24 bits of a tracer word by their fields (2.1); where each field stands in the word is the business of
the line cards (log 8). -/
structure TracerWord where
  site    : Byte
  station : BitVec 5
  port    : BitVec 5
  check   : BitVec 6
deriving DecidableEq, Repr

/-- A sample as the monitor link reports it for one receiver (1.1). -/
structure Sample where
  code   : Byte
  lol    : Bool
  tracer : Bool
  word   : TracerWord
deriving DecidableEq, Repr

/-- An answer on the monitor link. `checksumOk` is the outcome of comparing the link's checksum with the one the
Scanner computes over the other fields; the manual does not say how it is computed (log 7). -/
structure SampleAnswer where
  recv       : Byte
  checksumOk : Bool
  sample     : Sample
deriving DecidableEq, Repr

/-- How a read of the configuration memory ended within its 100 ms (R200): completed, with the bytes of the image, the
fields the part finds in them at its own fixed positions (13.2, log 8) and the CRC held in the memory; or with the
memory not answering. -/
inductive ConfigRead where
  | completed (image : List Byte) (fields : RawImage) (held : BitVec 16)
  | noAnswer
deriving DecidableEq, Repr

/-- The five commands of the driver link (R107), as an answer names them. -/
inductive CmdKind where
  | connect
  | restore
  | bridge
  | unbridge
  | query
deriving DecidableEq, Repr

/-- A position the switch driver reports (7.1). -/
inductive Position where
  | working
  | spare (s : Spare)
  | unknown
deriving DecidableEq, Repr

/-- What an answer on the driver link says: DONE with the positions it reports, or ERROR. The answer to CONNECT
and RESTORE reports the receive position, to BRIDGE and UNBRIDGE the bridge position, to QUERY both (7.1); the
position an answer does not report is not read. -/
inductive Reply where
  | done (receive bridge : Position)
  | error
deriving DecidableEq, Repr

/-- An answer on the driver link: "Every answer carries the command and port it answers" (R108). -/
structure DriverAnswer where
  cmd   : CmdKind
  port  : Port
  reply : Reply
deriving DecidableEq, Repr

/-- Whose claim window expires (R93): that of the PENDING claim or transfer claim of a port's record, of which it
has at most one, or the Exerciser's. -/
inductive WindowOwner where
  | port (p : Port)
  | exerciser
deriving DecidableEq, Repr

/-- The commands: the rows of spec/opcode_table.json. A craft request's row is the arrival of its REQUEST frame:
`src` is the frame's source, `tgt` its target (0–31, or 63 for ALL), and the bytes are the parameter bytes of
12.2. -/
inductive Instr where
  | fullReset (straps : BitVec 5)
  | configReadEnd (read : ConfigRead) (temp : BitVec 9)
  | configReadTimeout (temp : BitVec 9)
  | slotCompletion
  | sampleAnswer (a : SampleAnswer)
  | lineActivity
  | lineIdle
  /-- `bits`: what the line carried from the first activity after an idle to the idle at which the frame arrives. -/
  | frameArrival (bits : List Bool)
  /-- `elapsed`: bit times since the declaration of idle (R41). -/
  | attemptStart (elapsed : Nat)
  /-- `straps`: the strap pins, read only when the event restarts the station (R199). -/
  | collision (straps : BitVec 5)
  | frameSent (straps : BitVec 5)
  | spacingTimerExpiry
  | routineTimerExpiry
  | linefaultTimerExpiry
  | peerExpiry (n : Station)
  | quarantineEnd (n : Station)
  | silenceTimerExpiry
  | unheardTimerExpiry
  | holdoffExpiry (p : Port)
  | claimWindowExpiry (w : WindowOwner)
  | wtrExpiry (p : Port)
  | driverAnswer (a : DriverAnswer)
  | allowanceExpiry
  | recoveryTimerExpiry (p : Port) (sp : Spare)
  | retryTimerExpiry (p : Port)
  | stepTimerExpiry
  | edgeLoss (c : Cand)
  | edgeReturn (c : Cand)
  | gateCompletion (c : Cand) (count : Nat)
  | gateOverrun (c : Cand)
  | secondsTick (temp : BitVec 9)
  | holdoverLimitExpiry
  | listenEnd
  | stat (src : Station) (tgt : BitVec 6)
  | view (src : Station) (tgt : BitVec 6) (n : Byte)
  | port (src : Station) (tgt : BitVec 6) (p part : Byte)
  | spar (src : Station) (tgt : BitVec 6) (sp : Byte)
  | timg (src : Station) (tgt : BitVec 6) (c : Byte)
  | logr (src : Station) (tgt : BitVec 6) (n : Byte)
  | capr (src : Station) (tgt : BitVec 6)
  | lrn (src : Station) (tgt : BitVec 6) (r : Byte)
  | lrnAll (src : Station) (tgt : BitVec 6)
  | maskOn (src : Station) (tgt : BitVec 6) (p : Byte)
  | maskOff (src : Station) (tgt : BitVec 6) (p : Byte)
  | clrl (src : Station) (tgt : BitVec 6)
  | aco (src : Station) (tgt : BitVec 6)
  | pswForce (src : Station) (tgt : BitVec 6) (p target : Byte)
  | pswManual (src : Station) (tgt : BitVec 6) (p target : Byte)
  | pswLockout (src : Station) (tgt : BitVec 6) (p : Byte)
  | pswClear (src : Station) (tgt : BitVec 6) (p : Byte)
  | slkOn (src : Station) (tgt : BitVec 6) (sp : Byte)
  | slkOff (src : Station) (tgt : BitVec 6) (sp : Byte)
  | trefForce (src : Station) (tgt : BitVec 6) (c : Byte)
  | trefClear (src : Station) (tgt : BitVec 6)
  | trefLockoutOn (src : Station) (tgt : BitVec 6) (c : Byte)
  | trefLockoutOff (src : Station) (tgt : BitVec 6) (c : Byte)
  | swpStart (src : Station) (tgt : BitVec 6) (sp mode count continuous first : Byte)
  | swpStep (src : Station) (tgt : BitVec 6)
  | swpStop (src : Station) (tgt : BitVec 6)
  | pairClear (src : Station) (tgt : BitVec 6) (p sp : Byte)
  | rsta (src : Station) (tgt : BitVec 6)
  | gateStart (c : Cand)
deriving DecidableEq, Repr

end Sys2Proof
end

