-- ==== Sys2Proof/Decode.lean ====
section
/-! DEFINITION. The command a word of spec/opcode_table.json spells. No row of the table has fixed bits or
fields (spec/98_reader.md: "n_rows_with_fixed": 0, "n_rows_with_fields": 0), so no word spells a command. The
request codes of 12.2 stand in frames on the bay line, not in the table; Machine/Requests.lean reads them. -/

namespace Sys2Proof

/-- The command that a word of `nbits` bits spells by the table's bits: none, for the table gives no row any. -/
def decodeTableWord (_nbits _w : Nat) : Option Instr := none

end Sys2Proof
end

