-- ==== Sys2Proof/Machine/Points.lean ====
section
/-! DEFINITION. The 158 alarm points by kind, index and number, and their base severities (R163). -/

namespace Sys2Proof.Machine

/-- A severity, lowest first (Conventions). -/
inductive Severity where
  | warning
  | minor
  | major
  | critical
deriving DecidableEq, Repr

/-- The place of a severity, lowest first: the two severity bits of an alarm point byte (R181). -/
def Severity.rank : Severity → Nat
  | .warning => 0
  | .minor => 1
  | .major => 2
  | .critical => 3

/-- One step below (R169). -/
def Severity.lower : Severity → Severity
  | .critical => .major
  | .major => .minor
  | .minor => .warning
  | .warning => .warning

/-- The 23 kinds of alarm point, in the order of R163's table. -/
inductive Kind where
  | los
  | low
  | deg
  | tim
  | tlost
  | protfail
  | actfail
  | exfail
  | slos
  | slow
  | stim
  | cfgdef
  | isolated
  | unheard
  | peerlost
  | linefault
  | logovr
  | caplost
  | reffail
  | holdover
  | freerun
  | hoexpired
  | squelch
deriving DecidableEq, Repr

/-- The place of a kind in the list of 23, as the latch enables and kind masks are indexed (R164). -/
def Kind.place : Kind → Fin 23
  | .los => 0
  | .low => 1
  | .deg => 2
  | .tim => 3
  | .tlost => 4
  | .protfail => 5
  | .actfail => 6
  | .exfail => 7
  | .slos => 8
  | .slow => 9
  | .stim => 10
  | .cfgdef => 11
  | .isolated => 12
  | .unheard => 13
  | .peerlost => 14
  | .linefault => 15
  | .logovr => 16
  | .caplost => 17
  | .reffail => 18
  | .holdover => 19
  | .freerun => 20
  | .hoexpired => 21
  | .squelch => 22

/-- Base severity of a kind (R163). -/
def Kind.base : Kind → Severity
  | .los => .critical
  | .low => .critical
  | .deg => .minor
  | .tim => .major
  | .tlost => .minor
  | .protfail => .critical
  | .actfail => .major
  | .exfail => .minor
  | .slos => .major
  | .slow => .major
  | .stim => .major
  | .cfgdef => .major
  | .isolated => .critical
  | .unheard => .critical
  | .peerlost => .minor
  | .linefault => .major
  | .logovr => .warning
  | .caplost => .warning
  | .reffail => .minor
  | .holdover => .major
  | .freerun => .major
  | .hoexpired => .critical
  | .squelch => .critical

/-- What a point supervises: a working port, a spare, a candidate, or the station (R163). -/
inductive Scope where
  | port (p : Port)
  | spare (s : Spare)
  | cand (c : Cand)
  | station
deriving DecidableEq, Repr

/-- The kind of the port points numbered 16·k to 16·k+15 (R163). -/
def portKind : Fin 8 → Kind
  | 0 => .los
  | 1 => .low
  | 2 => .deg
  | 3 => .tim
  | 4 => .tlost
  | 5 => .protfail
  | 6 => .actfail
  | 7 => .exfail

/-- The kind of the spare points numbered 128+4·k to 131+4·k (R163). -/
def spareKind : Fin 3 → Kind
  | 0 => .slos
  | 1 => .slow
  | 2 => .stim

/-- The kind of a station point by its number (R163). -/
def stationKind (n : Nat) : Kind :=
  if n = 140 then .cfgdef
  else if n = 141 then .isolated
  else if n = 142 then .unheard
  else if n = 143 then .peerlost
  else if n = 144 then .linefault
  else if n = 145 then .logovr
  else if n = 146 then .caplost
  else if n = 154 then .holdover
  else if n = 155 then .freerun
  else if n = 156 then .hoexpired
  else .squelch

/-- Kind and scope of the point of each number 0–157 (R163). -/
def pointOf (i : Fin 158) : Kind × Scope :=
  if i.val < 128 then (portKind (Fin.ofNat 8 (i.val / 16)), .port (Fin.ofNat 16 (i.val % 16)))
  else if i.val < 140 then (spareKind (Fin.ofNat 3 ((i.val - 128) / 4)), .spare (Fin.ofNat 4 ((i.val - 128) % 4)))
  else if 147 ≤ i.val ∧ i.val < 154 then (.reffail, .cand (Fin.ofNat 7 (i.val - 147)))
  else (stationKind i.val, .station)

/-- The number of a port's point of the kind numbered k among the eight (R163). -/
def portPoint (k : Fin 8) (p : Port) : Fin 158 := ⟨16 * k.val + p.val, by omega⟩

/-- The number of a spare's point of the kind numbered k among the three (R163). -/
def sparePoint (k : Fin 3) (s : Spare) : Fin 158 := ⟨128 + 4 * k.val + s.val, by omega⟩

/-- The number of a candidate's REFFAIL point (R163). -/
def reffailPoint (c : Cand) : Fin 158 := ⟨147 + c.val, by omega⟩

/-- The numbers of the eleven station points, in rising order (R163, R182). -/
def stationPoints : List (Fin 158) := [140, 141, 142, 143, 144, 145, 146, 154, 155, 156, 157]

end Sys2Proof.Machine
end

