-- ==== Sys2Proof/Machine/State.lean ====
section
/-! DEFINITION. The state of the NSC-16: every piece of state the manual gives each block, as plain data, and its
value at full reset. A timer is `none` while stopped and `some n` with n steps of 10 ms left while it runs (the
manual's timer resolution), unless its field says otherwise. -/

namespace Sys2Proof.Machine

/-- Why the machine may stop with a fault. The manual names none: every command leaves the part in a next state,
so the type has no constructor. -/
inductive Fault where
deriving DecidableEq, Repr

/-- Why a command may have no meaning. -/
inductive Refusal where
  /-- Raised by exec's arm for a row that has no meaning yet, and by nothing else; no arm raises it. Safe: the
  machine stops instead of going on. -/
  | notModelled (mnemonic : String)
deriving DecidableEq, Repr

/-! ## Identities, claims, announces: what the blocks exchange -/

/-- An identity: site code, station and port (2.1). -/
structure Identity where
  site    : Byte
  station : BitVec 5
  port    : BitVec 5
deriving DecidableEq, Repr

/-- The class of a claim or request, lowest first (6.1). `undecided` is the class of a claim given at readback
until the end of the listen period (R85); no claim bears it after that. -/
inductive Class where
  | undecided
  | exercise
  | wtr
  | manual
  | sigdeg
  | sigfail
  | forced
  | lockout
deriving DecidableEq, Repr

/-- The timing states of 10.3. -/
inductive TimingState where
  | locked
  | acquiring
  | holdover
  | freerun
deriving DecidableEq, Repr

/-- A claim as an announce carries it (3.2): port 0–15, or 31 for a lockout claim. -/
structure AnnClaim where
  port    : Byte
  spare   : Spare
  cls     : Class
  settled : Bool
deriving DecidableEq, Repr

/-- The alarm summary (R174): the reported points of each effective severity, and the highest effective severity
among those not acknowledged. -/
structure Summary where
  critical : Nat
  major    : Nat
  minor    : Nat
  warning  : Nat
  highest  : Option Severity
deriving DecidableEq, Repr

/-- The content of an ANNOUNCE (3.2). In `heard` station 0 is the most significant bit, the first sent. `fourth` is the
bit of the flags byte after config-default: the layout says 0, R38 does not judge it, and VIEW returns the payload as
received (R183). -/
structure Announce where
  isolated  : Bool
  unheard   : Bool
  cfgdef    : Bool
  fourth    : Bool
  heard     : BitVec 32
  critical  : Byte
  major     : Byte
  minor     : Byte
  warning   : Byte
  highest   : Option Severity
  claims    : List AnnClaim
  timing    : TimingState
  ql        : Nat
  trace     : List Byte
deriving DecidableEq, Repr

/-- A frame of the bay line (3.2), by its fields. -/
structure Frame where
  kind    : BitVec 3
  source  : BitVec 5
  pad     : BitVec 2
  target  : BitVec 6
  payload : List Byte
deriving DecidableEq, Repr

/-! ## Chapter 1: the Receiver Scanner -/

/-- A condition of a receiver with its persistence counter (1.2). -/
structure Condition where
  active : Bool
  count  : Nat
deriving DecidableEq, Repr

/-- The Scanner's state of one receiver (R3, R5). -/
structure RecvScan where
  last   : Sample
  errors : Nat
  los    : Condition
  low    : Condition
  deg    : Condition
deriving DecidableEq, Repr

/-- The Receiver Scanner: the receiver requested in the present slot, the good answer kept in it (R2), the
twenty receivers, the mask countdowns of the spare receivers (R11), and what was sent to the line cards (R19). -/
structure Scanner where
  next     : Recv
  kept     : Option Sample
  recvs    : Vector RecvScan 20
  masks    : Vector Nat 4
  siteSent : Option (Byte × Station)
deriving DecidableEq, Repr

/-- A condition after a reset (R17). -/
def Condition.reset : Condition := ⟨false, 0⟩

/-- The sample held until a receiver's first good sample (R3, R17); its tracer word is never judged, since
tracer-valid is clear (log 4). -/
def Sample.reset : Sample := ⟨0, true, false, ⟨0, 0, 0, 0⟩⟩

/-- A receiver after a reset (R17). -/
def RecvScan.reset : RecvScan := ⟨Sample.reset, 0, Condition.reset, Condition.reset, Condition.reset⟩

/-- The Scanner after full reset and after restart (R13, R17). -/
def Scanner.reset : Scanner := ⟨0, none, tconst 20 RecvScan.reset, tconst 4 0, none⟩

/-! ## Chapter 2: the Tracer Decoder and the Change Capture Queue -/

/-- The Decoder's state of one receiver (2.2, 2.3). -/
structure RecvDec where
  cand    : Option Identity
  repeats : Nat
  absence : Nat
  ident   : Option Identity
  expect  : Option Identity
deriving DecidableEq, Repr

/-- The Tracer Decoder with the maintenance masks of the working ports (R28). -/
structure Decoder where
  recvs : Vector RecvDec 20
  maint : Vector Bool 16
deriving DecidableEq, Repr

/-- The kinds of a capture record, in the order of R29's table. -/
inductive CaptureKind where
  | isMatch
  | mismatch
  | unlearned
  | lost
deriving DecidableEq, Repr

/-- A capture record (R29). -/
structure CaptureRec where
  recv    : Recv
  old     : Option Identity
  new     : Option Identity
  seconds : BitVec 32
  kind    : CaptureKind
deriving DecidableEq, Repr

/-- The Change Capture Queue, oldest first, and the CAPLOST condition (R30). -/
structure Capture where
  queue : List CaptureRec
  lost  : Bool
deriving DecidableEq, Repr

/-- A receiver of the Decoder after full reset (R33). -/
def RecvDec.reset : RecvDec := ⟨none, 0, 0, none, none⟩

/-- The Decoder after full reset (R33). -/
def Decoder.reset : Decoder := ⟨tconst 20 RecvDec.reset, tconst 16 false⟩

/-- The Change Capture Queue after full reset (R33). -/
def Capture.reset : Capture := ⟨[], false⟩

/-! ## Chapter 3: the Bay Line Controller -/

/-- The controller's view of the line (R34). -/
inductive LineView where
  | idle
  | active
deriving DecidableEq, Repr

/-- The receiver of the bay line: no activity since the last idle, assembling a possible frame, or taking nothing
more from the line until the next idle (R35). -/
inductive RxState where
  | quiet
  | assembling
  | ignoring
deriving DecidableEq, Repr

/-- The class of a frame in hand (3.4). -/
inductive FrameClass where
  | triggered
  | response
  | routine
deriving DecidableEq, Repr

/-- A frame in hand with its class. -/
structure InHand where
  cls   : FrameClass
  frame : Frame
deriving DecidableEq, Repr

/-- A response waiting for the transmitter (R48): the requester and the payload. -/
structure Response where
  target  : Station
  payload : List Byte
deriving DecidableEq, Repr

/-- The Bay Line Controller (3.4). `linefault` is LINEFAULT's 10 s timer; the condition is active exactly while
it runs (R44). -/
structure BayLine where
  view       : LineView
  rx         : RxState
  inHand     : Option InHand
  sending    : Bool
  collisions : Nat
  trigger    : Bool
  spacing    : Option Nat
  routine    : Option Nat
  routineDue : Bool
  responses  : List Response
  linefault  : Option Nat
deriving DecidableEq, Repr

/-- The controller after full reset (R51); the line view is IDLE (log 5). -/
def BayLine.reset : BayLine := ⟨.idle, .quiet, none, false, 0, false, none, none, false, [], none⟩

/-! ## Chapter 4: the Peer View Table -/

/-- A quarantine: the frozen claims and the time left (R55). -/
structure Quarantine where
  claims : List AnnClaim
  timer  : Nat
deriving DecidableEq, Repr

/-- A peer record (4.1). The age is `none` for NEVER, else in steps of 10 ms up to 65535. -/
structure PeerRec where
  present    : Bool
  age        : Option Nat
  content    : Option Announce
  quarantine : Option Quarantine
deriving DecidableEq, Repr

/-- The Peer View Table (chapter 4). -/
structure PeerView where
  recs         : Vector PeerRec 32
  isolated     : Bool
  unheard      : Bool
  silence      : Option Nat
  unheardTimer : Option Nat
deriving DecidableEq, Repr

/-- A record after a reset (R65). -/
def PeerRec.reset : PeerRec := ⟨false, none, none, none⟩

/-- The table after full reset and after restart (R65). -/
def PeerView.reset : PeerView := ⟨tconst 32 PeerRec.reset, false, false, none, none⟩

/-! ## Chapters 5 and 6: the Protection Engine -/

/-- The states of a port protection record, in the order of R67. -/
inductive PortState where
  | idle
  | holdoff
  | seeking
  | claiming
  | connecting
  | switched
  | wtr
  | releasing
deriving DecidableEq, Repr

/-- The claim of a record (R67). -/
structure Claim where
  spare   : Spare
  cls     : Class
  settled : Bool
deriving DecidableEq, Repr

/-- A transfer claim (R67, R81); its class is that of the record's claim. -/
structure Transfer where
  spare   : Spare
  settled : Bool
deriving DecidableEq, Repr

/-- The craft's standing command with its target, `none` for ANY (R67, R70). -/
inductive Command where
  | none
  | forced (target : Option Spare)
  | manual (target : Option Spare)
deriving DecidableEq, Repr

/-- A port protection record (R67). `selection` is `none` for WORKING. `request` is the effective request as last
evaluated, `none` for NONE. `window` is the claim window of the record's PENDING claim or transfer claim (R93). -/
structure PortRec where
  state      : PortState
  request    : Option Class
  selection  : Option Spare
  claim      : Option Claim
  transfer   : Option Transfer
  window     : Option Nat
  holdoff    : Option Nat
  wtr        : Option Nat
  command    : Command
  lockout    : Bool
  firstCause : Option (Class × BitVec 32)
deriving DecidableEq, Repr

/-- The Protection Engine: the sixteen records, the spare-lockout set (R97) and the demand on each spare (R92). -/
structure Protection where
  recs      : Vector PortRec 16
  spareLock : Vector Bool 4
  demands   : Vector (Option Port) 4
deriving DecidableEq, Repr

/-- A record after a reset, before the readback (R67). Its effective request is NONE until the end of the listen period,
where R67 first gives it (DESIGN CHOICE, log 35). -/
def PortRec.reset : PortRec := ⟨.idle, none, none, none, none, none, none, none, .none, false, none⟩

/-- The Protection Engine after full reset and after restart, before the readback (R67, R106). -/
def Protection.reset : Protection := ⟨tconst 16 PortRec.reset, tconst 4 false, tconst 4 none⟩

/-! ## Chapter 7: the Selector Driver -/

/-- A command of the driver link with the spare it names (R107). -/
inductive Cmd where
  | connect (s : Spare)
  | restore
  | bridge (s : Spare)
  | unbridge
  | query
deriving DecidableEq, Repr

/-- Who made an entry (7.2). -/
inductive Maker where
  | record
  | exerciser
  | driver
deriving DecidableEq, Repr

/-- An entry of the actuation queue. `replaced`: it replaced an UNBRIDGE entry in place (R110, R113 step 3). -/
structure Entry where
  cmd      : Cmd
  maker    : Maker
  replaced : Bool
deriving DecidableEq, Repr

/-- The actuation in flight (R112): its port and entry, the spare concerned as noted at the start, for the mask and
for the pair of a failed UNBRIDGE, and what is left of the 50 ms allowance. -/
structure InFlight where
  port      : Port
  entry     : Entry
  spare     : Option Spare
  allowance : Nat
deriving DecidableEq, Repr

/-- A pair of a working port and a spare (7.4). -/
structure Pair where
  failed : Bool
  count  : Nat
  timer  : Option Nat
deriving DecidableEq, Repr

/-- The kind of an outstanding retry, in the order of R116. -/
inductive RetryKind where
  | restore
  | unbridge
deriving DecidableEq, Repr

/-- An outstanding retry with its timer (R116). -/
structure Retry where
  kind  : RetryKind
  timer : Option Nat
deriving DecidableEq, Repr

/-- The Selector Driver's state of one port: its slot of the actuation queue, its waiting need (R109), its four
pairs, its outstanding retry, the last reported positions (R108), the spare of its bridge as the Driver last knew it
(R107, R113; log 11), the readback mark (R117) and the position the readback gives its record (R118). -/
structure PortDrv where
  queue     : Option Entry
  waiting   : Option Entry
  pairs     : Vector Pair 4
  retry     : Option Retry
  recvPos   : Option Position
  bridgePos : Option Position
  bridge    : Option Spare
  mark      : Bool
  placed    : Option Spare
deriving DecidableEq, Repr

/-- The Selector Driver. The queue holds at most one entry for each port and no order of arrival (R109), so it is
one slot per port. -/
structure Driver where
  ports    : Vector PortDrv 16
  inFlight : Option InFlight
deriving DecidableEq, Repr

/-- A pair after a reset (7.4). -/
def Pair.reset : Pair := ⟨false, 0, none⟩

/-- The Driver's state of a port after a reset (R119). -/
def PortDrv.reset : PortDrv := ⟨none, none, tconst 4 Pair.reset, none, none, none, none, false, none⟩

/-- The Selector Driver after full reset and after restart, before the readback (R119). -/
def Driver.reset : Driver := ⟨tconst 16 PortDrv.reset, none⟩

/-! ## Chapter 8: the Exerciser -/

/-- The mode of a sweep (R120). -/
inductive Mode where
  | paced
  | free
deriving DecidableEq, Repr

/-- The results of an exercise, in the order of R128. -/
inductive ExResult where
  | none
  | pass
  | fail
  | preempted
  | skipped
  | busy
deriving DecidableEq, Repr

/-- Where a step stands: in its claim window, at its BRIDGE or at its UNBRIDGE; whether an actuation is queued or
in flight is the Selector Driver's to know. -/
inductive Stage where
  | window
  | bridge
  | unbridge
deriving DecidableEq, Repr

/-- The step in flight (R124–R127), on the descriptor's next port and spare: its stage, its claim while it stands
(PENDING `false`, SETTLED `true`), its claim window, whether an actuation of it failed, and the result that a
release cause or the port's own record has given it (PREEMPTED by R126, BUSY by R127, which takes its place, log 12). -/
structure Step where
  stage  : Stage
  claim  : Option Bool
  window : Option Nat
  failed : Bool
  ending : Option ExResult
deriving DecidableEq, Repr

/-- What the Exerciser keeps of a port (R128). -/
structure ExPort where
  result  : ExResult
  seconds : BitVec 32
  failure : Bool
deriving DecidableEq, Repr

/-- The Exerciser: the sweep descriptor of R120, the step timer and the results. -/
structure Exerciser where
  nextPort   : Port
  remaining  : Nat
  spare      : Spare
  mode       : Mode
  continuous : Bool
  enable     : Bool
  step       : Option Step
  stepTimer  : Option Nat
  results    : Vector ExPort 16
deriving DecidableEq, Repr

/-- The Exerciser after full reset (R129). -/
def Exerciser.reset : Exerciser :=
  ⟨0, 0, 0, .paced, false, false, none, none, tconst 16 ⟨.none, 0, false⟩⟩

/-! ## Chapter 9: the Timing Selector -/

/-- The states of a candidate, in the order of the table of 9.2. -/
inductive CandState where
  | unused
  | failed
  | qualifying
  | qualified
  | lockedout
deriving DecidableEq, Repr

/-- A candidate: its state and good-gate count, whether its input has shown no edge for 375 µs, its signal fail as
last judged, whether its gate runs (chapter 9); its d with the saturation flag, its F and its hit mark (chapter
10). -/
structure CandRec where
  state   : CandState
  good    : Nat
  noEdges : Bool
  sigFail : Bool
  gate    : Bool
  d       : Option (Int × Bool)
  f       : Option Int
  hit     : Bool
deriving DecidableEq, Repr

/-- The Timing Selector: the candidates, the selection, the force, and what the station announces (R142, R143). -/
structure Timing where
  cands     : Vector CandRec 7
  selection : Option Cand
  force     : Option Cand
  ql        : Nat
  trace     : List Byte
  squelch   : Bool
deriving DecidableEq, Repr

/-- A candidate at a reset or settling (R147, R162). -/
def CandRec.start (unused : Bool) : CandRec :=
  ⟨if unused then .unused else .qualifying, 0, false, false, false, none, none, false⟩

/-! ## Chapter 10: the Frequency Unit -/

/-- The Frequency Unit. `temp` is the temperature code of the last tick, `t` the last target, `history` the ring of
K oldest first, `hoTimer` the holdover timer in seconds (chapter 10). -/
structure Frequency where
  seconds : BitVec 32
  temp    : BitVec 9
  state   : TimingState
  lock    : Nat
  k       : Int
  t       : Option Int
  history : List Int
  h       : Option Int
  tEntry  : Option (BitVec 9)
  hoTimer : Option Nat
deriving DecidableEq, Repr

/-- The Frequency Unit after full reset (R162); the temperature code until the first sample is 0 (log 6). -/
def Frequency.reset : Frequency := ⟨0, 0, .freerun, 0, 0, none, [], none, none, none⟩

/-! ## Chapter 11: the Alarm Unit -/

/-- An alarm point's record (R163). -/
structure Point where
  active     : Bool
  latched    : Bool
  masked     : Bool
  suppressed : Bool
  severity   : Severity
  reported   : Bool
  acked      : Bool
deriving DecidableEq, Repr

/-- The transitions of a log record, in the order of 11.5. -/
inductive Transition where
  | raised
  | cleared
  | changed
deriving DecidableEq, Repr

/-- A record of the alarm log (11.5). -/
structure LogRec where
  seconds    : BitVec 32
  point      : Fin 158
  transition : Transition
  severity   : Severity
deriving DecidableEq, Repr

/-- The Alarm Unit: the 158 points, the log oldest first, the LOGOVR condition, the three bay alarm lines (true:
pulled) and the summary. -/
structure Alarm where
  points  : Vector Point 158
  log     : List LogRec
  logOvr  : Bool
  crit    : Bool
  maj     : Bool
  min     : Bool
  summary : Summary
deriving DecidableEq, Repr

/-- The summary after a reset (R174). -/
def Summary.zero : Summary := ⟨0, 0, 0, 0, none⟩

/-! ## The whole -/

/-- Where the station stands between a start and normal running (chapter 13): CONFIG-HALT; a read of the
configuration memory in progress, the second one or the first; readback; the listen period; running. -/
inductive Phase where
  | halt
  | loading (second : Bool)
  | readback
  | listening
  | running
deriving DecidableEq, Repr

/-- The state of the part, with the queue of waiting commands, which is the model's own (log 1). -/
structure State where
  pending        : List Instr
  straps         : BitVec 5
  phase          : Phase
  loadTimer      : Option Nat
  listenTimer    : Option Nat
  config         : Config
  cfgdef         : Bool
  restartPending : Bool
  scan           : Scanner
  dec            : Decoder
  cap            : Capture
  line           : BayLine
  peers          : PeerView
  prot           : Protection
  drv            : Driver
  exr            : Exerciser
  tim            : Timing
  freq           : Frequency
  alm            : Alarm
deriving DecidableEq, Repr

/-- A point right after full reset (R177): latched, reported and acknowledged clear; active, masked, suppressed and
effective severity as the conditions of the reset state give them, which are REFFAIL of the two candidates the
default image uses, suppressed by FREERUN, and FREERUN and SQUELCH (R147, R162). -/
def Point.reset (i : Fin 158) : Point where
  active := i.val == 147 || i.val == 148 || i.val == 155 || i.val == 157
  latched := false
  masked := false
  suppressed := 147 ≤ i.val && i.val ≤ 153
  severity := (pointOf i).1.base
  reported := false
  acked := false

/-- The Alarm Unit right after full reset (R177). -/
def Alarm.reset : Alarm := ⟨tab Point.reset, [], false, false, false, false, Summary.zero⟩

/-- The Timing Selector right after full reset (R147): no selection, QL 6 before squelch, squelched under the default
minimum, so QL 7 announced with the own number alone (R142, R143). -/
def Timing.reset : Timing where
  cands := tab fun c => CandRec.start (decide (2 ≤ c.val))
  selection := none
  force := none
  ql := 7
  trace := [0]
  squelch := true

/-- The machine right after full reset with the straps at 0 (log 2): the first read of the configuration memory has
begun (R200), the default image stands until the settling (log 3), and every block is at its full-reset values. -/
def State.reset : State where
  pending := []
  straps := 0
  phase := .loading false
  loadTimer := some 10
  listenTimer := none
  config := Config.default
  cfgdef := false
  restartPending := false
  scan := Scanner.reset
  dec := Decoder.reset
  cap := Capture.reset
  line := BayLine.reset
  peers := PeerView.reset
  prot := Protection.reset
  drv := Driver.reset
  exr := Exerciser.reset
  tim := Timing.reset
  freq := Frequency.reset
  alm := Alarm.reset

end Sys2Proof.Machine
end

