-- ==== Sys2Proof/Machine/Ops.lean ====
section
/-! DEFINITION. The named operations on the registers of the state: reading and writing one record of a table,
timers, the trigger request of R45, and the phases of a start. -/

namespace Sys2Proof.Machine

/-! ## Records of the tables -/

/-- The protection record of a port (R67). -/
def State.prec (s : State) (p : Port) : PortRec := tget s.prot.recs p

/-- Write the protection record of a port. -/
def State.setPrec (s : State) (p : Port) (r : PortRec) : State :=
  { s with prot := { s.prot with recs := tset s.prot.recs p r } }

/-- The Selector Driver's state of a port. -/
def State.dport (s : State) (p : Port) : PortDrv := tget s.drv.ports p

/-- Write the Selector Driver's state of a port. -/
def State.setDport (s : State) (p : Port) (d : PortDrv) : State :=
  { s with drv := { s.drv with ports := tset s.drv.ports p d } }

/-- A pair of a port and a spare (7.4). -/
def State.pair (s : State) (p : Port) (sp : Spare) : Pair := tget (s.dport p).pairs sp

/-- Write a pair. -/
def State.setPair (s : State) (p : Port) (sp : Spare) (x : Pair) : State :=
  s.setDport p { s.dport p with pairs := tset (s.dport p).pairs sp x }

/-- A peer record (4.1). -/
def State.peer (s : State) (n : Station) : PeerRec := tget s.peers.recs n

/-- Write a peer record. -/
def State.setPeer (s : State) (n : Station) (r : PeerRec) : State :=
  { s with peers := { s.peers with recs := tset s.peers.recs n r } }

/-- A timing candidate's record. -/
def State.cand (s : State) (c : Cand) : CandRec := tget s.tim.cands c

/-- Write a timing candidate's record. -/
def State.setCand (s : State) (c : Cand) (r : CandRec) : State :=
  { s with tim := { s.tim with cands := tset s.tim.cands c r } }

/-- The Scanner's state of a receiver. -/
def State.recv (s : State) (r : Recv) : RecvScan := tget s.scan.recvs r

/-- The Decoder's state of a receiver. -/
def State.decv (s : State) (r : Recv) : RecvDec := tget s.dec.recvs r

/-- The receiver of a working port's fibre. -/
def portRecv (p : Port) : Recv := ⟨p.val, by omega⟩

/-- The receiver of a spare: receiver 16 + s. -/
def spareRecv (sp : Spare) : Recv := ⟨16 + sp.val, by omega⟩

/-! ## The station and its phases -/

/-- The own station number (R199). -/
def State.own (s : State) : Station := ⟨s.straps.toNat, s.straps.isLt⟩

/-- The configuration image is settled: readback, the listen period or normal running (R201, R203). -/
def State.settled (s : State) : Bool :=
  match s.phase with
  | .halt | .loading _ => false
  | .readback | .listening | .running => true

/-- The start-up period, from the settling to the end of the listen period (R179). -/
def State.startUp (s : State) : Bool :=
  match s.phase with
  | .readback | .listening => true
  | _ => false

/-- The start is complete (R205). -/
def State.running (s : State) : Bool := decide (s.phase = .running)

/-- The port is marked used in the configuration (R68). -/
def State.used (s : State) (p : Port) : Bool := s.config.used.getLsbD p.val

/-- The spare is in the port's spare mask (R68). -/
def State.inMap (s : State) (p : Port) (sp : Spare) : Bool := (tget s.config.maps p).mask.getLsbD sp.val

/-- The port's spare group map in its order: from the start index upward modulo 4, passing over spares not in the
mask (R68). -/
def State.mapOrder (s : State) (p : Port) : List Spare :=
  ((idx 4).map fun i => (tget s.config.maps p).start + i).filter fun sp => s.inMap p sp

/-! ## Timers -/

/-- One step of 10 ms of a timer: a running timer falls to 0 and waits there for the command of its expiry. -/
def tickTimer (t : Option Nat) : Option Nat := t.map (· - 1)

/-- A timer has run out. The command of an expiry takes effect when its timer has run out and not while time is left: a
timer that another event has started again, or stopped, has no expiry then (R55, R60; DEDUCED for the rest, log 14). -/
def ranOut (t : Option Nat) : Bool := decide (t = some 0)

/-- 80 ms, the claim window (R93), in steps of 10 ms. -/
def windowSteps : Nat := 8

/-- 10 s in steps of 10 ms: the quarantine (R55), retry (R116), step (R122) and LINEFAULT (R44) timers. -/
def tenSeconds : Nat := 1000

/-! ## The trigger request -/

/-- Trigger pending is set; a routine announce in hand becomes triggered class when the spacing timer is stopped
(R45). -/
def BayLine.trig (l : BayLine) : BayLine :=
  { l with
    trigger := true
    inHand := if l.spacing.isNone then
        l.inHand.map fun h => if h.cls = .routine then { h with cls := .triggered } else h
      else l.inHand }

/-- A request for a triggered announce (R45). One that arrives before the listen period ends is discarded (R49). -/
def requestTrigger (s : State) : State :=
  if s.running then { s with line := s.line.trig } else s

/-- A request for a triggered announce when something changed. -/
def triggerIf (b : Bool) (s : State) : State := if b then requestTrigger s else s

/-! ## What a group of blocks may change -/

/-- The line of `s` with the trigger, and the class of a frame in hand, as in `t`: all that a trigger request changes
(R45). -/
def trigPart (s t : State) : BayLine :=
  { s.line with
    trigger := t.line.trigger
    inHand := s.line.inHand.map fun h => { h with cls := (t.line.inHand.map (·.cls)).getD h.cls } }

/-- `t`'s Protection Engine but for the spare-lockout set, which SLK alone changes (R97, R98), its Selector Driver,
Exerciser and trigger in `s`: what an event of protection may change, and nothing else. -/
def protectionPart (s t : State) : State :=
  { s with
    prot := { t.prot with spareLock := s.prot.spareLock }
    drv := t.drv
    exr := t.exr
    line := trigPart s t }

/-- Of `t`'s protection part, what the handling of requests, release causes and choices may change (R69–R84, R90–R92): the
records less selection, first cause, command and lockout, the demands, the entries and retries of the Driver, and the
Exerciser. -/
def requestPart (s t : State) : State :=
  { protectionPart s t with
    prot :=
      { recs := tab fun p =>
          { t.prec p with
            selection := (s.prec p).selection
            firstCause := (s.prec p).firstCause
            command := (s.prec p).command
            lockout := (s.prec p).lockout }
        spareLock := s.prot.spareLock
        demands := t.prot.demands }
    drv :=
      { ports := tab fun p =>
          { s.dport p with
            queue := (t.dport p).queue
            waiting := (t.dport p).waiting
            retry := (t.dport p).retry }
        inFlight := s.drv.inFlight } }

/-- `t`'s protection part, spare masks and candidates in `s`: what the end of an actuation may change (R113), and nothing
else. -/
def actuationPart (s t : State) : State :=
  { protectionPart s t with
    scan := { s.scan with masks := t.scan.masks }
    tim := { s.tim with cands := t.tim.cands } }

/-- `t`'s Timing Selector, timing state with what belongs to it, and trigger in `s`: what a change of the references may
change, and nothing else; K and the history move at correction events alone (R151, R154). -/
def timingPart (s t : State) : State :=
  { s with
    tim := { t.tim with force := s.tim.force }
    freq := { s.freq with
      state := t.freq.state
      lock := t.freq.lock
      h := t.freq.h
      tEntry := t.freq.tEntry
      hoTimer := t.freq.hoTimer }
    line := trigPart s t }

end Sys2Proof.Machine
end

