-- ==== Sys2Proof/Machine/Flags.lean ====
section
/-! DEFINITION. Every condition that follows from other state: the tracer conditions (R23, R25), SF and SD (R14),
usability (R15), the conditions of the 158 alarm points (R163), and what suppresses and masks a point. -/

namespace Sys2Proof.Machine

/-! ## Tracer and light -/

/-- TIM of a receiver: a decoded identity and an expectation that differ (R23). -/
def State.timOf (s : State) (r : Recv) : Bool :=
  match (s.decv r).ident, (s.decv r).expect with
  | some i, some e => decide (i ≠ e)
  | _, _ => false

/-- TLOST of a receiver: no decoded identity while an expectation is set (R23). -/
def State.tlostOf (s : State) (r : Recv) : Bool :=
  (s.decv r).ident.isNone && (s.decv r).expect.isSome

/-- Spare identity-matched: expectation set, identity decoded, the two equal (R25). -/
def State.matched (s : State) (sp : Spare) : Bool :=
  match (s.decv (spareRecv sp)).ident, (s.decv (spareRecv sp)).expect with
  | some i, some e => decide (i = e)
  | _, _ => false

/-- SF of a port (R14): LOS or LOW of its receiver, or TIM under TIM consequent with the maintenance mask off;
inactive at all times for a port not marked used. -/
def State.sf (s : State) (p : Port) : Bool :=
  s.used p && ((s.recv (portRecv p)).los.active || (s.recv (portRecv p)).low.active ||
    (s.timOf (portRecv p) && s.config.timConseq && !tget s.dec.maint p))

/-- SD of a port: DEG of its receiver; inactive for a port not marked used (R14). -/
def State.sd (s : State) (p : Port) : Bool := s.used p && (s.recv (portRecv p)).deg.active

/-- Spare usable by light: neither LOS nor LOW of receiver 16 + s (R15). -/
def State.byLight (s : State) (sp : Spare) : Bool :=
  !(s.recv (spareRecv sp)).los.active && !(s.recv (spareRecv sp)).low.active

/-- Local usability of a spare: its three parts (R15, R25, R97). -/
def State.locallyUsable (s : State) (sp : Spare) : Bool :=
  s.byLight sp && s.matched sp && !tget s.prot.spareLock sp

/-- Spare usable for a port: locally usable, and the pair not failed (R91). -/
def State.usableFor (s : State) (p : Port) (sp : Spare) : Bool :=
  s.locallyUsable sp && !(s.pair p sp).failed

/-- The station is isolated or unheard (R63). -/
def State.cutOff (s : State) : Bool := s.peers.isolated || s.peers.unheard

/-! ## Conditions of the blocks -/

/-- PROTFAIL of a port: SEEKING with request SIGFAIL or SIGDEG (R77). -/
def State.protfail (s : State) (p : Port) : Bool :=
  decide ((s.prec p).state = .seeking) &&
    (decide ((s.prec p).request = some .sigfail) || decide ((s.prec p).request = some .sigdeg))

/-- ACTFAIL of a used port: a failed pair, an outstanding retry, or the readback mark (R117). -/
def State.actfail (s : State) (p : Port) : Bool :=
  s.used p && ((idx 4).any (fun sp => (s.pair p sp).failed) || (s.dport p).retry.isSome || (s.dport p).mark)

/-- PEERLOST: at least one running quarantine (R57). -/
def State.peerlost (s : State) : Bool := (idx 32).any fun n => (s.peer n).quarantine.isSome

/-- HOEXPIRED: HOLDOVER with the timer at or above a limit that is not 0 (R159). -/
def State.hoexpired (s : State) : Bool :=
  decide (s.freq.state = .holdover) && decide (s.config.hoLimit ≠ 0) &&
    decide (s.config.hoLimit * 3600 ≤ s.freq.hoTimer.getD 0)

/-- REFFAIL of a candidate: FAILED, QUALIFYING or LOCKEDOUT (R145). -/
def State.reffail (s : State) (c : Cand) : Bool :=
  match (s.cand c).state with
  | .failed | .qualifying | .lockedout => true
  | .unused | .qualified => false

/-- CONFIG-HALT (R199). -/
def State.halted (s : State) : Bool := decide (s.phase = .halt)

/-- The timing output is held off: squelched (R143), or in CONFIG-HALT (R147, R199). -/
def State.outputHeld (s : State) : Bool := s.tim.squelch || s.halted

/-! ## Alarm points -/

/-- The condition of an alarm point, from the block that owns it (R163). In CONFIG-HALT the CFGDEF point is held
active (R173). -/
def State.cond (s : State) (k : Kind) (sc : Scope) : Bool :=
  match k, sc with
  | .los, .port p => (s.recv (portRecv p)).los.active
  | .low, .port p => (s.recv (portRecv p)).low.active
  | .deg, .port p => (s.recv (portRecv p)).deg.active
  | .tim, .port p => s.timOf (portRecv p)
  | .tlost, .port p => s.tlostOf (portRecv p)
  | .protfail, .port p => s.protfail p
  | .actfail, .port p => s.actfail p
  | .exfail, .port p => (tget s.exr.results p).failure
  | .slos, .spare sp => (s.recv (spareRecv sp)).los.active
  | .slow, .spare sp => (s.recv (spareRecv sp)).low.active
  | .stim, .spare sp => s.timOf (spareRecv sp)
  | .reffail, .cand c => s.reffail c
  | .cfgdef, .station => s.cfgdef || s.halted
  | .isolated, .station => s.peers.isolated
  | .unheard, .station => s.peers.unheard
  | .peerlost, .station => s.peerlost
  | .linefault, .station => s.line.linefault.isSome
  | .logovr, .station => s.alm.logOvr
  | .caplost, .station => s.cap.lost
  | .holdover, .station => decide (s.freq.state = .holdover)
  | .freerun, .station => decide (s.freq.state = .freerun)
  | .hoexpired, .station => s.hoexpired
  | .squelch, .station => s.tim.squelch
  | _, _ => false

/-- Whether a point is suppressed: the condition of any of its suppressors is active (R168). -/
def State.suppressed (s : State) (k : Kind) (sc : Scope) : Bool :=
  match k with
  | .low => s.cond .los sc
  | .deg => s.cond .los sc || s.cond .low sc
  | .tim => s.cond .los sc || s.cond .low sc
  | .tlost => s.cond .los sc || s.cond .low sc
  | .slow => s.cond .slos sc
  | .stim => s.cond .slos sc || s.cond .slow sc
  | .unheard => s.cond .isolated .station
  | .peerlost => s.cond .isolated .station
  | .reffail => s.cond .freerun .station || s.cond .holdover .station
  | _ => false

/-- Whether a point is masked: its kind mask, or for a port's point the port's maintenance mask or the port not
being marked used (R167). In CONFIG-HALT no kind mask is applied to CFGDEF (R173). -/
def State.masked (s : State) (k : Kind) (sc : Scope) : Bool :=
  (tget s.config.kindMask k.place && !(s.halted && decide (k = .cfgdef))) ||
    match sc with
    | .port p => tget s.dec.maint p || !s.used p
    | _ => false

/-- Effective severity: one step below the base while the port's current selection is a spare (R169). -/
def State.severityOf (s : State) (k : Kind) (sc : Scope) : Severity :=
  match sc with
  | .port p => if (s.prec p).selection.isSome then k.base.lower else k.base
  | _ => k.base

/-- Whether a raise of the point is latched: the latch enable of its kind, and always PEERLOST, CAPLOST and LOGOVR
(R164, R166). -/
def State.latchable (s : State) (k : Kind) : Bool :=
  tget s.config.latch k.place || decide (k = .peerlost) || decide (k = .caplost) || decide (k = .logovr)

end Sys2Proof.Machine
end

