-- ==== Sys2Proof/Machine/Claims.lean ====
section
/-! DEFINITION. Chapter 6: claims and their rank, the view of a spare, the effective request, preemption, and which
spare is open to a record. The Claim Resolver holds no state: these are functions of the state. -/

namespace Sys2Proof.Machine

/-- The announce code of a class (3.2); a higher code is a higher class. -/
def Class.code : Class → Nat
  | .undecided => 0
  | .exercise => 1
  | .wtr => 2
  | .manual => 3
  | .sigdeg => 4
  | .sigfail => 5
  | .forced => 6
  | .lockout => 7

/-- How an entry stands in the view of a spare (R89), in the order of R181's codes. -/
inductive Mark where
  | own
  | present
  | quarantined
  | demand
deriving DecidableEq, Repr

/-- An entry of the view of a spare (R89). -/
structure ViewEntry where
  station : Nat
  port    : Nat
  cls     : Class
  settled : Bool
  mark    : Mark
deriving DecidableEq, Repr

/-- The rank of R88 on one spare: class higher first, lower station number, lower port number. -/
def ViewEntry.outranks (a b : ViewEntry) : Bool :=
  b.cls.code < a.cls.code ||
    (a.cls.code == b.cls.code && (a.station < b.station || (a.station == b.station && a.port < b.port)))

/-- The claims a peer's record supplies, with their mark (R52, R58): none from a craft station's record or the own. -/
def State.peerClaims (s : State) (n : Station) : List (AnnClaim × Mark) :=
  if 30 ≤ n.val ∨ n = s.own then []
  else match (s.peer n).content, (s.peer n).quarantine with
    | some a, _ => a.claims.map fun c => (c, .present)
    | none, some q => q.claims.map fun c => (c, .quarantined)
    | none, none => []

/-- The peer entries of the view of a spare (R89). -/
def State.peerView (s : State) (sp : Spare) : List ViewEntry :=
  (idx 32).flatMap fun n =>
    ((s.peerClaims n).filter fun c => c.1.spare = sp).map fun c =>
      ⟨n.val, c.1.port.toNat, c.1.cls, c.1.settled, c.2⟩

/-- The effective request less WTR (R69): FORCED, SIGFAIL, SIGDEG, MANUAL in that order, none under port lockout. -/
def State.standing (s : State) (p : Port) : Option Class :=
  if (s.prec p).lockout then none
  else match (s.prec p).command with
    | .forced _ => some .forced
    | .manual _ => if s.sf p then some .sigfail else if s.sd p then some .sigdeg else some .manual
    | .none => if s.sf p then some .sigfail else if s.sd p then some .sigdeg else none

/-- The effective request of a port (R69); WTR stands while the record is in state WTR. -/
def State.effective (s : State) (p : Port) : Option Class :=
  match s.standing p with
  | some c => some c
  | none => if (s.prec p).state = .wtr ∧ (s.prec p).lockout = false then some .wtr else none

/-- The spare an effective request of FORCED or MANUAL names (R69); none for ANY and for the other classes. -/
def State.named (s : State) (p : Port) : Option Spare :=
  match s.standing p, (s.prec p).command with
  | some .forced, .forced t => t
  | some .manual, .manual t => t
  | _, _ => none

/-- The entry a claim of a port at the own station makes. -/
def State.ownEntry (s : State) (port : Nat) (cls : Class) (settled : Bool) (m : Mark) : ViewEntry :=
  ⟨s.own.val, port, cls, settled, m⟩

/-- The entries of a port's record on a spare: its claim and its transfer claim, both of the class of its claim
(R67, R81). -/
def State.recordEntries (s : State) (sp : Spare) (p : Port) : List ViewEntry :=
  match (s.prec p).claim with
  | none => []
  | some c =>
    (if c.spare = sp then [s.ownEntry p.val c.cls c.settled .own] else []) ++
      match (s.prec p).transfer with
      | some t => if t.spare = sp then [s.ownEntry p.val c.cls t.settled .own] else []
      | none => []

/-- The Exerciser's claim on a spare, while its step holds one (R124). -/
def State.exerciseEntry (s : State) (sp : Spare) : List ViewEntry :=
  match s.exr.step with
  | some st =>
    match st.claim with
    | some settled => if s.exr.spare = sp then [s.ownEntry s.exr.nextPort.val .exercise settled .own] else []
    | none => []
  | none => []

/-- The LOCKOUT claim of a spare in the spare-lockout set (R97). -/
def State.lockEntry (s : State) (sp : Spare) : List ViewEntry :=
  if tget s.prot.spareLock sp then [s.ownEntry 31 .lockout true .own] else []

/-- The own claims on a spare (R87). -/
def State.ownClaims (s : State) (sp : Spare) : List ViewEntry :=
  (idx 16).flatMap (s.recordEntries sp) ++ s.exerciseEntry sp ++ s.lockEntry sp

/-- The own demand on a spare, ranked as the claim its record would make (R89, R92). -/
def State.demandEntry (s : State) (sp : Spare) : List ViewEntry :=
  match tget s.prot.demands sp with
  | some p => match s.effective p with
    | some c => [s.ownEntry p.val c false .demand]
    | none => []
  | none => []

/-- The view of a spare, unordered: every entry of R89. -/
def State.viewOf (s : State) (sp : Spare) : List ViewEntry :=
  s.ownClaims sp ++ s.peerView sp ++ s.demandEntry sp

/-- Insert an entry before the first it outranks. -/
def insertRanked (e : ViewEntry) : List ViewEntry → List ViewEntry
  | [] => [e]
  | x :: xs => if e.outranks x then e :: x :: xs else x :: insertRanked e xs

/-- The view of a spare in the order of R88. -/
def State.rankedView (s : State) (sp : Spare) : List ViewEntry :=
  (s.viewOf sp).foldl (fun acc e => insertRanked e acc) []

/-- An own claim of a class for a port on a spare is preempted: an entry of the view ranks above it (R95). -/
def State.preempted (s : State) (sp : Spare) (port : Nat) (cls : Class) : Bool :=
  (s.viewOf sp).any fun e => e.outranks (s.ownEntry port cls false .own)

/-- A release cause of R74 on a spare other than lockout, isolation and unheard: the claim is preempted, or the
spare is not usable for the port. -/
def State.causeOn (s : State) (p : Port) (sp : Spare) (cls : Class) : Bool :=
  s.preempted sp p.val cls || !s.usableFor p sp

/-- The record chooses: in SEEKING with a request, or in SWITCHED with a named target on another spare and no
transfer claim (R90); never in the listen period, nor isolated or unheard (R77). -/
def State.choosing (s : State) (p : Port) : Bool :=
  s.running && !s.cutOff &&
    match (s.prec p).state with
    | .seeking => (s.standing p).isSome
    | .switched => (s.prec p).transfer.isNone && (s.named p).isSome && decide (s.named p ≠ (s.prec p).selection)
    | _ => false

/-- The list of candidate spares of a record's request (R91): the named target alone, else its map in order. -/
def State.candidates (s : State) (p : Port) : List Spare :=
  match s.named p with
  | some t => [t]
  | none => s.mapOrder p

/-- A spare is open to a record's request of a class (R91): usable for the port, and the request ranks above every
entry of the view but the record's own demand. A choosing record holds no claim on a spare of its list other than the
one it is leaving, which a transfer's list does not name. -/
def State.openTo (s : State) (p : Port) (cls : Class) (sp : Spare) : Bool :=
  s.usableFor p sp &&
    (s.ownClaims sp ++ s.peerView sp ++ (if tget s.prot.demands sp = some p then [] else s.demandEntry sp)).all
      fun e => (s.ownEntry p.val cls false .own).outranks e

/-- The first open spare of a record's list (R91). -/
def State.firstOpen (s : State) (p : Port) : Option Spare :=
  match s.standing p with
  | some c => (s.candidates p).find? fun sp => s.openTo p c sp
  | none => none

/-- Another own record, or the Exerciser, holds a claim on the spare (R91). -/
def State.heldByOther (s : State) (p : Port) (sp : Spare) : Bool :=
  (idx 16).any (fun q => decide (q ≠ p) && !(s.recordEntries sp q).isEmpty) || !(s.exerciseEntry sp).isEmpty

/-- The records in the rank order of their requests (R88, R90). -/
def State.requestOrder (s : State) : List Port :=
  [Class.forced, .sigfail, .sigdeg, .manual].flatMap fun c => (idx 16).filter fun p => s.standing p = some c

/-- The highest-ranked own claim on a spare: the one the station announces (R87). -/
def State.announcedOn (s : State) (sp : Spare) : Option ViewEntry :=
  ((s.ownClaims sp).foldl (fun acc e => insertRanked e acc) []).head?

end Sys2Proof.Machine
end

