-- ==== Sys2Proof/Machine/Switching.lean ====
section
/-! DEFINITION. The Exerciser's step ends (chapter 8), and the Selector Driver's actuation queue: asking for a
movement, replacing and removing an entry, the arbiter and the start (R109–R112). -/

namespace Sys2Proof.Machine

/-! ## The end of an exercise step -/

/-- The sweep advances (R125): the next port, and the remaining count unless continuous; at 0 Enable is cleared and
the step timer stopped. -/
def Exerciser.advance (e : Exerciser) : Exerciser :=
  let e := { e with nextPort := e.nextPort + 1 }
  if e.continuous then e
  else if e.remaining ≤ 1 then { e with remaining := 0, enable := false, stepTimer := none }
  else { e with remaining := e.remaining - 1 }

/-- Write a port's result with the seconds counter; FAIL sets the exercise failure flag and PASS clears it (R128). -/
def Exerciser.write (e : Exerciser) (r : ExResult) (seconds : BitVec 32) : Exerciser :=
  let old := tget e.results e.nextPort
  let failure := if r = .fail then true else if r = .pass then false else old.failure
  { e with results := tset e.results e.nextPort ⟨r, seconds, failure⟩ }

/-- The step timer started in FREE mode (R122); it does not run in PACED mode. -/
def Exerciser.startTimer (e : Exerciser) : Exerciser :=
  { e with stepTimer := if e.mode = .free then some tenSeconds else none }

/-- A result ends a step time or a step (R123, R125): it is written, the step timer starts again, and the sweep
advances, but for PREEMPTED, which holds it. -/
def Exerciser.finish (e : Exerciser) (r : ExResult) (seconds : BitVec 32) : Exerciser :=
  let e := (({ e with step := none }).write r seconds).startTimer
  if r = .preempted then e else e.advance

/-- The step in flight ends with a result; its claim is withdrawn if it still stands (R125), which requests a
triggered announce (R124). -/
def endStep (s : State) (r : ExResult) : State :=
  let held := match s.exr.step with
    | some st => st.claim.isSome
    | none => false
  triggerIf held { s with exr := s.exr.finish r s.freq.seconds }

/-- The result of a step that ran to its end (R125–R127): FAIL if an actuation failed, else what has befallen it,
else PASS. -/
def Step.result (st : Step) : ExResult := if st.failed then .fail else st.ending.getD .pass

/-- An entry of the step was replaced in place (R127): the step ends BUSY, or FAIL if an actuation of it failed. -/
def stepReplaced (s : State) : State :=
  match s.exr.step with
  | some st => endStep s (if st.failed then .fail else .busy)
  | none => s

/-! ## The queue -/

/-- An actuation of the port is in flight. -/
def State.portInFlight (s : State) (p : Port) : Bool :=
  match s.drv.inFlight with
  | some f => decide (f.port = p)
  | none => false

/-- A CONNECT of the port is in flight (R79, R83). -/
def State.connectInFlight (s : State) (p : Port) : Bool :=
  match s.drv.inFlight with
  | some f => decide (f.port = p) && match f.entry.cmd with
    | .connect _ => true
    | _ => false
  | none => false

/-- A BRIDGE of the port is in flight. -/
def State.bridgeInFlight (s : State) (p : Port) : Bool :=
  match s.drv.inFlight with
  | some f => decide (f.port = p) && match f.entry.cmd with
    | .bridge _ => true
    | _ => false
  | none => false

/-- The entry that stands for a port: queued, or held as its waiting need, which counts as queued (R109). -/
def State.standingEntry (s : State) (p : Port) : Option Entry :=
  match (s.dport p).queue with
  | some e => some e
  | none => (s.dport p).waiting

/-- An entry that takes this one's place answers for a bridge: this one is an UNBRIDGE, or replaced one itself
(R113 step 3). -/
def Entry.overBridge (e : Entry) : Bool := e.replaced || decide (e.cmd = .unbridge)

/-- An UNBRIDGE entry of the Driver's own. -/
def Entry.isDriverUnbridge (e : Entry) : Bool :=
  decide (e.maker = .driver) && decide (e.cmd = .unbridge)

/-- Place an entry in a port's slot of the queue, or empty the slot. -/
def putQueue (s : State) (p : Port) (e : Option Entry) : State :=
  s.setDport p { s.dport p with queue := e }

/-- Put an entry where the port's standing entry is, or where a new one stands: as its waiting need while its
actuation is in flight, else in its slot (R109). -/
def putEntry (s : State) (p : Port) (e : Option Entry) : State :=
  if (s.dport p).queue.isNone && ((s.dport p).waiting.isSome || s.portInFlight p) then
    s.setDport p { s.dport p with waiting := e }
  else putQueue s p e

/-- An UNBRIDGE retry whose queued command is replaced waits 10 s again (R116: "does not give up"; log 15). -/
def restartRetry (s : State) (p : Port) : State :=
  s.setDport p { s.dport p with retry := (s.dport p).retry.map fun r => { r with timer := some tenSeconds } }

/-- A maker asks for a port's next movement (R109, R110). A standing entry is replaced in place: its maker is told,
which ends an exercise step (R127). -/
def ask (s : State) (p : Port) (cmd : Cmd) (m : Maker) (replaced : Bool := false) : State :=
  match s.standingEntry p with
  | none => putEntry s p (some ⟨cmd, m, replaced⟩)
  | some old =>
    let s1 := putEntry s p (some ⟨cmd, m, old.overBridge⟩)
    let s2 := if old.isDriverUnbridge && decide (m ≠ .driver) then restartRetry s1 p else s1
    if old.maker = .exerciser then stepReplaced s2 else s2

/-- An entry of a maker. -/
def madeBy (m : Maker) (e : Option Entry) : Bool :=
  match e with
  | some x => decide (x.maker = m)
  | none => false

/-- A maker removes its own entry of a port while it is queued or held as the waiting need (R109, R110). -/
def removeEntry (s : State) (p : Port) (m : Maker) : State :=
  if madeBy m (s.dport p).queue then putQueue s p none
  else if madeBy m (s.dport p).waiting then s.setDport p { s.dport p with waiting := none }
  else s

/-! ## The arbiter -/

/-- The place of an entry in the order of R111, lowest first: during readback QUERY before UNBRIDGE; RESTORE by
port; CONNECT by the rank of the claim it serves, which among the station's own is class then port; BRIDGE and
UNBRIDGE by port. -/
def State.entryKey (s : State) (p : Port) (e : Entry) : Nat :=
  match e.cmd with
  | .query => p.val
  | .restore => 256 + p.val
  | .connect _ =>
    let cls := match (s.prec p).claim with
      | some c => c.cls
      | none => .undecided
    512 + (7 - cls.code) * 16 + p.val
  | .bridge _ => 768 + p.val
  | .unbridge => 768 + p.val

/-- The queued entries with their ports and keys. -/
def State.queued (s : State) : List (Nat × Port × Entry) :=
  (idx 16).filterMap fun p => (s.dport p).queue.map fun e => (s.entryKey p e, p, e)

/-- The entry of the lowest key. -/
def lowestKey : List (Nat × Port × Entry) → Option (Nat × Port × Entry)
  | [] => none
  | x :: xs =>
    match lowestKey xs with
    | some y => if y.1 < x.1 then some y else some x
    | none => some x

/-- The spare concerned of an entry at its start (R107, R112): of a RESTORE the port's current selection, of an
UNBRIDGE the spare of the bridge as the Driver last knew it. -/
def State.spareConcerned (s : State) (p : Port) (e : Entry) : Option Spare :=
  match e.cmd with
  | .connect sp => some sp
  | .restore => (s.prec p).selection
  | .bridge sp => some sp
  | .unbridge => (s.dport p).bridge
  | .query => none

/-- The start of an entry (R112): it leaves the queue, its command is sent and its allowance of 50 ms starts. -/
def startEntry (s : State) (p : Port) (e : Entry) : State :=
  let s1 := s.setDport p { s.dport p with queue := none }
  { s1 with drv := { s1.drv with inFlight := some ⟨p, e, s.spareConcerned p e, 5⟩ } }

/-- The arbiter (R111): on a free link with an entry queued, the chosen entry starts. -/
def arbitrate (s : State) : State :=
  match s.drv.inFlight with
  | some _ => s
  | none =>
    match lowestKey s.queued with
    | some (_, p, e) => startEntry s p e
    | none => s

/-! ## What reaches the step in flight -/

/-- The step's BRIDGE waits, or its window runs: no light has moved (R121, R126, R127). -/
def State.stepUnmoved (s : State) (st : Step) : Bool :=
  match st.stage with
  | .window => true
  | .bridge => !s.bridgeInFlight s.exr.nextPort
  | .unbridge => false

/-- Note what has befallen a step that runs on to its UNBRIDGE. -/
def markStep (s : State) (st : Step) : State := { s with exr := { s.exr with step := some st } }

/-- The port under exercise leaves IDLE, or its lockout is set (R127): the step ends BUSY at once while no light has
moved, and otherwise runs on with the result BUSY. -/
def stepPortBusy (s : State) : State :=
  match s.exr.step with
  | none => s
  | some st =>
    if (s.prec s.exr.nextPort).state = .idle ∧ (s.prec s.exr.nextPort).lockout = false then s
    else if s.stepUnmoved st then endStep (removeEntry s s.exr.nextPort .exerciser) .busy
    else markStep s { st with ending := some .busy }

/-- A release cause stands against the step in flight (R126). -/
def State.stepCause (s : State) (st : Step) : Bool :=
  s.cutOff || (st.claim.isSome && s.preempted s.exr.spare s.exr.nextPort.val .exercise) ||
    !s.usableFor s.exr.nextPort s.exr.spare

/-- The release causes of R126 act on the step: it ends PREEMPTED while no light has moved, and otherwise runs on,
keeping its claim unless the station is isolated or unheard. -/
def stepRelease (s : State) : State :=
  match s.exr.step with
  | none => s
  | some st =>
    if s.stepCause st then
      if s.stepUnmoved st then endStep (removeEntry s s.exr.nextPort .exerciser) .preempted
      else
        let st' := { st with
          ending := some (st.ending.getD .preempted)
          claim := if s.cutOff then none else st.claim }
        triggerIf (s.cutOff && st.claim.isSome) (markStep s st')
    else s

/-! ## A step time -/

/-- What a step time led to, in the order of R196's codes. -/
inductive StepOutcome where
  | begun
  | hold
  | skipped
  | busy
deriving DecidableEq, Repr

/-- The judgement of R123 at a step time, in its order. -/
def State.judgeStep (s : State) : StepOutcome :=
  let p := s.exr.nextPort
  let sp := s.exr.spare
  if !s.used p || !s.inMap p sp || (s.pair p sp).failed then .skipped
  else if (s.prec p).state ≠ .idle ∨ (s.prec p).lockout then .busy
  else if s.cutOff || !s.locallyUsable sp || !(s.viewOf sp).isEmpty then .hold
  else .begun

/-- A step time (R122–R124). -/
def stepTime (s : State) : State :=
  match s.judgeStep with
  | .skipped => { s with exr := s.exr.finish .skipped s.freq.seconds }
  | .busy => { s with exr := s.exr.finish .busy s.freq.seconds }
  | .hold => { s with exr := s.exr.startTimer }
  | .begun =>
    requestTrigger { s with exr := { s.exr with step := some ⟨.window, some false, some windowSteps, false, none⟩ } }

end Sys2Proof.Machine
end

