-- ==== Sys2Proof/Machine/Protect.lean ====
section
/-! DEFINITION. The Protection Engine's handling of one event (chapters 5 and 6): the effective requests, the release
causes, and the choices in rank order (R69–R84, R90–R92). -/

namespace Sys2Proof.Machine

/-- Change a port's protection record. -/
def updRec (s : State) (p : Port) (f : PortRec → PortRec) : State := s.setPrec p (f (s.prec p))

/-- A record withdraws every claim it holds and goes to a state; its claim window stops (R73, R93). -/
def withdraw (s : State) (p : Port) (st : PortState) : State :=
  requestTrigger (updRec s p fun r => { r with state := st, claim := none, transfer := none, window := none })

/-- A record withdraws its transfer claim, which is PENDING or whose CONNECT is queued; a queued entry is removed
(R81). -/
def dropTransfer (s : State) (p : Port) : State :=
  if (s.prec p).transfer.isSome then
    requestTrigger (updRec (removeEntry s p .record) p fun r => { r with transfer := none, window := none })
  else s

/-- A change of class rewrites the claim (R73). -/
def setClass (s : State) (p : Port) (c : Class) : State :=
  match (s.prec p).claim with
  | some k => if k.cls = c then s
      else requestTrigger (updRec s p fun r => { r with claim := some { k with cls := c } })
  | none => s

/-- Entry to RELEASING (R83): RESTORE(p) is asked for, in place of a queued CONNECT; a transfer claim is withdrawn. -/
def enterReleasing (s : State) (p : Port) : State :=
  let s1 := triggerIf (s.prec p).transfer.isSome
    (updRec s p fun r => { r with state := .releasing, transfer := none, window := none, wtr := none })
  ask s1 p .restore .record

/-- Entry to RELEASING with the record's own CONNECT in flight (R79, R81, R83): its claims are kept and it waits for
the end. -/
def waitReleasing (s : State) (p : Port) : State :=
  updRec s p fun r => { r with state := .releasing, window := none, wtr := none }

/-- A record goes to SEEKING if a request stands and to IDLE otherwise. -/
def State.seekOrIdle (s : State) (p : Port) : PortState :=
  if (s.standing p).isSome then .seeking else .idle

/-- The record's claim is on another spare than the one its target names (R78, R79). -/
def State.misaimed (s : State) (p : Port) (sp : Spare) : Bool :=
  match s.named p with
  | some t => decide (t ≠ sp)
  | none => false

/-! ## The effective request in each state -/

/-- R75: in IDLE, a request starts the hold-off or goes to SEEKING. -/
def requestIdle (s : State) (p : Port) : State :=
  match s.standing p with
  | none => s
  | some c =>
    if (c = .sigfail ∨ c = .sigdeg) ∧ 0 < s.config.holdoff then
      updRec s p fun r => { r with state := .holdoff, holdoff := some (10 * s.config.holdoff) }
    else updRec s p fun r => { r with state := .seeking }

/-- R76: in HOLDOFF, lockout returns to IDLE and a FORCED or MANUAL request goes to SEEKING; SF and SD do not stop the
timer. -/
def requestHoldoff (s : State) (p : Port) : State :=
  if (s.prec p).lockout then updRec s p fun r => { r with state := .idle, holdoff := none }
  else if (s.prec p).command ≠ .none then updRec s p fun r => { r with state := .seeking, holdoff := none }
  else s

/-- R77: in SEEKING, a request that falls to NONE returns to IDLE. -/
def requestSeeking (s : State) (p : Port) : State :=
  match s.standing p with
  | none => updRec s p fun r => { r with state := .idle }
  | some _ => s

/-- R78: in CLAIMING, NONE withdraws to IDLE, another named target withdraws to SEEKING, and a class rewrites the claim. -/
def requestClaiming (s : State) (p : Port) : State :=
  match s.standing p, (s.prec p).claim with
  | none, _ => withdraw s p .idle
  | some c, some k => if s.misaimed p k.spare then withdraw s p .seeking else setClass s p c
  | some _, none => s

/-- R79: in CONNECTING, as CLAIMING while the CONNECT is queued; with it in flight NONE goes to RELEASING and another
target waits. -/
def requestConnecting (s : State) (p : Port) : State :=
  match s.standing p, (s.prec p).claim with
  | none, _ =>
    if s.connectInFlight p then waitReleasing s p else withdraw (removeEntry s p .record) p .idle
  | some c, some k =>
    if s.misaimed p k.spare ∧ s.connectInFlight p = false then withdraw (removeEntry s p .record) p .seeking
    else setClass s p c
  | some _, none => s

/-- R80, R81: in SWITCHED, a class rewrites the claim and ends a transfer its target no longer names; NONE goes to WTR
from SIGFAIL or SIGDEG, and to RELEASING from FORCED or MANUAL, under port lockout, and from a transfer. -/
def requestSwitched (s : State) (p : Port) : State :=
  let r := s.prec p
  match s.standing p, r.claim with
  | none, some k =>
    if s.connectInFlight p then waitReleasing s p
    else if r.lockout ∨ k.cls = .forced ∨ k.cls = .manual ∨ r.transfer.isSome then enterReleasing s p
    else
      setClass (updRec s p fun r => { r with state := .wtr, wtr := some (6000 * s.config.wtr) }) p .wtr
  | some c, _ =>
    let s1 := setClass s p c
    match r.transfer with
    | some t => if s.named p ≠ some t.spare ∧ s.connectInFlight p = false then dropTransfer s1 p else s1
    | none => s1
  | none, none => s

/-- R82: in WTR, a request returns to SWITCHED; port lockout goes to RELEASING. -/
def requestWtr (s : State) (p : Port) : State :=
  match s.standing p with
  | some c => setClass (updRec s p fun r => { r with state := .switched, wtr := none }) p c
  | none => if (s.prec p).lockout then enterReleasing s p else s

/-- A record handles its effective request in its present state (R69); a record in RELEASING takes no notice (R83). -/
def handleRequest (s : State) (p : Port) : State :=
  match (s.prec p).state with
  | .idle => requestIdle s p
  | .holdoff => requestHoldoff s p
  | .seeking => requestSeeking s p
  | .claiming => requestClaiming s p
  | .connecting => requestConnecting s p
  | .switched => requestSwitched s p
  | .wtr => requestWtr s p
  | .releasing => s

/-! ## Release causes -/

/-- The release causes in SWITCHED (R80, R81), on the spare of the selection and on the spare of a transfer. -/
def releaseSwitched (s : State) (p : Port) (k : Claim) : State :=
  match (s.prec p).transfer with
  | none => if s.cutOff || s.causeOn p k.spare k.cls then enterReleasing s p else s
  | some t =>
    if s.cutOff then
      if s.connectInFlight p then waitReleasing s p else enterReleasing s p
    else if s.connectInFlight p then s
    else if s.causeOn p k.spare k.cls then enterReleasing s p
    else if s.causeOn p t.spare k.cls then dropTransfer s p
    else s

/-- The release causes of R74 act on a record's claim (R78–R82, R84, R95). -/
def releaseRecord (s : State) (p : Port) : State :=
  match (s.prec p).claim with
  | none => s
  | some k =>
    let cause := s.cutOff || s.causeOn p k.spare k.cls
    match (s.prec p).state with
    | .claiming => if cause then withdraw s p .seeking else s
    | .connecting =>
      if cause then
        if s.connectInFlight p then waitReleasing s p
        else withdraw (removeEntry s p .record) p (s.seekOrIdle p)
      else s
    | .switched => releaseSwitched s p k
    | .wtr => if cause then enterReleasing s p else s
    | .idle => s
    | .holdoff => s
    | .seeking => s
    | .releasing => s

/-- Step 1 of R90: the release causes, for every record's claim and for the Exerciser's. -/
def releaseAll (s : State) : State := stepRelease ((idx 16).foldl releaseRecord s)

/-! ## Choices -/

/-- A record claims a spare, PENDING, with its claim window (R77, R81, R93); its demand, if any, is dropped. -/
def makeClaim (s : State) (p : Port) (sp : Spare) : State :=
  match s.standing p with
  | none => s
  | some c =>
    requestTrigger (updRec s p fun r =>
      if r.state = .switched then { r with transfer := some ⟨sp, false⟩, window := some windowSteps }
      else { r with state := .claiming, claim := some ⟨sp, c, false⟩, window := some windowSteps })

/-- Place a demand on a spare, or drop it. -/
def setDemand (s : State) (sp : Spare) (d : Option Port) : State :=
  { s with prot := { s.prot with demands := tset s.prot.demands sp d } }

/-- A choosing record makes its choice (R91): it claims its first open spare, or demands it where another own claim
holds it; the claim below the demand is preempted at the same event, and if that frees the spare the record claims
it (R92). -/
def chooseRecord (s : State) (p : Port) : State :=
  if s.choosing p then
    match s.firstOpen p with
    | none => s
    | some sp =>
      if s.heldByOther p sp then
        let s1 := releaseAll (setDemand s sp (some p))
        if s1.heldByOther p sp then s1 else makeClaim (setDemand s1 sp none) p sp
      else makeClaim s p sp
  else s

/-- Every demand is dropped; those that still hold are placed again by the choices that follow (R92, R102). -/
def dropDemands (s : State) : State := { s with prot := { s.prot with demands := tconst 4 none } }

/-- Step 2 of R90: each choosing record in the rank order of the requests. -/
def chooseAll (s : State) : State := s.requestOrder.foldl chooseRecord (dropDemands s)

/-- The effective request of every record, as now evaluated (R69). -/
def noteRequests (s : State) : State :=
  (idx 16).foldl (fun s p => updRec s p fun r => { r with request := s.effective p }) s

/-- The Protection Engine's handling of one event: the requests (R69), the port under exercise (R127), the causes
and the choices (R90). -/
def protectAll (s : State) : State :=
  noteRequests (chooseAll (releaseAll (stepPortBusy ((idx 16).foldl handleRequest s))))

/-- The Protection Engine at the end of an event. Records take no events before the end of the listen period (R85). -/
def protect (s : State) : State := if s.running then requestPart s (protectAll s) else s

end Sys2Proof.Machine
end

