-- ==== Sys2Proof/Machine/Actuation.lean ====
section
/-! DEFINITION. The end of an actuation (chapter 7, R108 and R113–R118): the answer judged, the mask, the positions,
the failed pairs and retries, and the maker told. -/

namespace Sys2Proof.Machine

/-! ## The selection of a port -/

/-- The line candidates LN0–LN3. -/
def lineCand (i : Fin 4) : Cand := ⟨2 + i.val, by omega⟩

/-- A reference hit of one line candidate (R137): its running gate is discarded and its hit mark set (R156). -/
def hitCand (s : State) (c : Cand) : State :=
  if (s.cand c).state = .unused then s
  else s.setCand c { s.cand c with gate := false, hit := true }

/-- A change of a port's current selection is a reference hit of every line candidate nominated to it (R131, R137). -/
def refHit (s : State) (p : Port) : State :=
  (idx 4).foldl (fun s i => if tget s.config.nominated i = some p then hitCand s (lineCand i) else s) s

/-- The first cause after a change of selection (R72). -/
def firstCauseAfter (r : PortRec) (sel : Option Spare) (seconds : BitVec 32) : Option (Class × BitVec 32) :=
  match r.selection, sel with
  | none, some _ => r.claim.map fun c => (c.cls, seconds)
  | some _, some _ => r.firstCause
  | _, none => none

/-- The current selection is written (R72), with the first cause; a change is a reference hit. -/
def setSelection (s : State) (p : Port) (sel : Option Spare) : State :=
  if (s.prec p).selection = sel then s
  else
    refHit (updRec s p fun r =>
      { r with selection := sel, firstCause := firstCauseAfter r sel s.freq.seconds }) p

/-! ## How an answer is judged -/

/-- The kind of a command, as answers name it. -/
def Cmd.kind : Cmd → CmdKind
  | .connect _ => .connect
  | .restore => .restore
  | .bridge _ => .bridge
  | .unbridge => .unbridge
  | .query => .query

/-- A DONE answer is a success when it reports the command's expected position (R107, R108); a QUERY succeeds on any
DONE. -/
def Cmd.expected (c : Cmd) (rx br : Position) : Bool :=
  match c with
  | .connect sp => decide (rx = .spare sp)
  | .restore => decide (rx = .working)
  | .bridge sp => decide (br = .spare sp)
  | .unbridge => decide (br = .working)
  | .query => true

/-- Success of a command by its answer; no answer before the allowance runs out is a failure (R108). -/
def Cmd.succeeds (c : Cmd) (r : Option Reply) : Bool :=
  match r with
  | some (.done rx br) => c.expected rx br
  | some .error => false
  | none => false

/-! ## Steps 1 to 3 of R113 -/

/-- N, the samples masked by the spare mask setting (R11). -/
def maskSamples (setting : Fin 4) : Nat :=
  match setting with
  | 0 => 5
  | 1 => 2
  | 2 => 20
  | 3 => 0

/-- The mask of the spare receiver concerned starts, or starts again (R11); with setting 3 the countdown stays. -/
def startMask (s : State) (sp : Option Spare) : State :=
  match sp with
  | none => s
  | some sp =>
    if s.config.maskSet = 3 then s
    else { s with scan := { s.scan with masks := tset s.scan.masks sp (maskSamples s.config.maskSet) } }

/-- The last reported positions after a DONE answer (R108): of the kind the command's answer reports. -/
def notePositions (s : State) (p : Port) (c : Cmd) (r : Option Reply) : State :=
  match r with
  | some (.done receive bridge) =>
    let d := s.dport p
    match c with
    | .connect _ => s.setDport p { d with recvPos := some receive }
    | .restore => s.setDport p { d with recvPos := some receive }
    | .bridge _ => s.setDport p { d with bridgePos := some bridge }
    | .unbridge => s.setDport p { d with bridgePos := some bridge }
    | .query => s.setDport p { d with recvPos := some receive, bridgePos := some bridge }
  | _ => s

/-- The spare of a port's bridge as the Driver knows it from a reported bridge position (log 11); UNKNOWN says nothing. -/
def bridgeAt (pos : Position) (before : Option Spare) : Option Spare :=
  match pos with
  | .working => none
  | .spare sp => some sp
  | .unknown => before

/-- The spare of a port's bridge as the Driver last knew it (R107, R112, R113), after an actuation's end. DESIGN CHOICE
(log 11): it is the spare last reported in a bridge position, with a BRIDGE that ends without a report, or with UNKNOWN,
taken to stand on the spare commanded, since the Driver cannot know otherwise (R114); a success of a CONNECT or RESTORE
takes any bridge down. -/
def bridgeKnown (before : Option Spare) (c : Cmd) (r : Option Reply) : Option Spare :=
  match c with
  | .connect _ => if c.succeeds r then none else before
  | .restore => if c.succeeds r then none else before
  | .bridge sp =>
    match r with
    | some (.done _ pos) => bridgeAt pos (some sp)
    | _ => some sp
  | .unbridge =>
    match r with
    | some (.done _ pos) => bridgeAt pos before
    | _ => before
  | .query =>
    match r with
    | some (.done _ pos) => bridgeAt pos before
    | _ => before

/-- Step 2 of R113: the last reported positions and the bridge as now known. -/
def noteReport (s : State) (p : Port) (c : Cmd) (r : Option Reply) : State :=
  let s1 := notePositions s p c r
  s1.setDport p { s1.dport p with bridge := bridgeKnown (s.dport p).bridge c r }

/-- The recovery timer at a marking, by the pair recovery setting and the attempt count (R115). -/
def recoveryTimer (setting : Fin 4) (count : Nat) : Option Nat :=
  match setting with
  | 0 => none
  | 1 => if count < 2 then some 1000 else none
  | 2 => if count < 4 then some 6000 else none
  | 3 => some 6000

/-- A pair is marked failed (R114), and its recovery timer starts as R115 lays down. -/
def markPair (s : State) (p : Port) (sp : Spare) : State :=
  let x := s.pair p sp
  s.setPair p sp { x with failed := true, timer := recoveryTimer s.config.recovery x.count }

/-- The pair of a port and the spare of its bridge, where one is known, is marked failed (R113, R114). -/
def markBridge (s : State) (p : Port) (sp : Option Spare) : State :=
  match sp with
  | some b => markPair s p b
  | none => s

/-- The attempt count of a pair goes back to 0 (R115). -/
def resetCount (s : State) (p : Port) (sp : Spare) : State := s.setPair p sp { s.pair p sp with count := 0 }

/-- An entry that is the command of a retry, of the Driver's own. -/
def Entry.isRetry (e : Entry) : Bool :=
  decide (e.maker = .driver) && match e.cmd with
    | .restore => true
    | .unbridge => true
    | _ => false

/-- A retry ends, and removes its command if it is still queued or held as the waiting need (R116). -/
def endRetry (s : State) (p : Port) : State :=
  let d := s.dport p
  if d.retry.isSome then
    let drop := fun (e : Option Entry) => e.filter fun x => !x.isRetry
    s.setDport p { d with retry := none, queue := drop d.queue, waiting := drop d.waiting }
  else s

/-- The outstanding retry of a port is an UNBRIDGE retry. -/
def State.unbridgeRetry (s : State) (p : Port) : Bool :=
  match (s.dport p).retry with
  | some ⟨.unbridge, _⟩ => true
  | _ => false

/-- A retry becomes outstanding with its timer at 10 s (R116). A RESTORE retry ends an UNBRIDGE retry of the port,
whose command is removed with it, and takes its place; it does not give way to one. -/
def setRetry (s : State) (p : Port) (k : RetryKind) : State :=
  match k, (s.dport p).retry with
  | .unbridge, some ⟨.restore, _⟩ => s
  | _, _ =>
    let s1 := if decide (k = .restore) && s.unbridgeRetry p then endRetry s p else s
    s1.setDport p { s1.dport p with retry := some ⟨k, some tenSeconds⟩ }

/-- The readback mark of a port ends (R117). -/
def clearMark (s : State) (p : Port) : State := s.setDport p { s.dport p with mark := false }

/-- The Driver's own records after a success (R113 step 3, R115, R116, R117). An UNBRIDGE retry ends at the success of its
own command, an UNBRIDGE of the Driver's (log 21), and not of an Exerciser's. -/
def noteSuccess (s : State) (p : Port) (e : Entry) : State :=
  match e.cmd with
  | .connect sp => clearMark (endRetry (resetCount s p sp) p) p
  | .restore => clearMark (endRetry s p) p
  | .bridge sp => resetCount s p sp
  | .unbridge => if e.isDriverUnbridge && s.unbridgeRetry p then endRetry s p else s
  | .query => s

/-- The Driver's own records after a failure (R113 step 3, R114, R116). A failed CONNECT that replaced an UNBRIDGE also
marks the pair of the bridge as the Driver last knew it; a failed UNBRIDGE marks the pair of the spare noted at its
start. -/
def noteFailure (s : State) (f : InFlight) : State :=
  let p := f.port
  match f.entry.cmd with
  | .connect sp =>
    let s1 := markPair s p sp
    if f.entry.replaced then setRetry (markBridge s1 p (s.dport p).bridge) p .unbridge else s1
  | .restore => setRetry s p .restore
  | .bridge sp => markPair s p sp
  | .unbridge => setRetry (markBridge s p f.spare) p .unbridge
  | .query => s

/-! ## Step 4 of R113: the maker -/

/-- The end of a CONNECT of a record (R79, R81, R83). -/
def connectEnd (s : State) (p : Port) (sp : Spare) (ok : Bool) : State :=
  let r := s.prec p
  let isTransfer := match r.transfer with
    | some t => decide (t.spare = sp)
    | none => false
  match r.state with
  | .connecting =>
    if ok then updRec (setSelection s p (some sp)) p fun r => { r with state := .switched }
    else withdraw s p (s.seekOrIdle p)
  | .switched =>
    if isTransfer then
      if ok then
        requestTrigger (updRec (setSelection s p (some sp)) p fun r =>
          { r with claim := r.claim.map fun k => { k with spare := sp, settled := true }, transfer := none })
      else requestTrigger (updRec s p fun r => { r with transfer := none })
    else s
  | .releasing =>
    if isTransfer then
      let s1 := if ok then
          updRec (setSelection s p (some sp)) p fun r =>
            { r with claim := r.claim.map fun k => { k with spare := sp, settled := true }, transfer := none }
        else updRec s p fun r => { r with transfer := none }
      ask (requestTrigger s1) p .restore .record
    else if ok then ask (setSelection s p (some sp)) p .restore .record
    else if r.selection.isSome then ask s p .restore .record
    else withdraw s p (s.seekOrIdle p)
  | _ => s

/-- The end of a RESTORE (R83), the record's or the Driver's retry (R116): at a success the record gives up its
claims and leaves RELEASING; at a failure it stays. -/
def restoreEnd (s : State) (p : Port) (ok : Bool) : State :=
  if ok then
    let s1 := setSelection s p none
    if (s.prec p).state = .releasing then withdraw s1 p (s1.seekOrIdle p) else s1
  else s

/-- The end of a BRIDGE of the step in flight (R114, R125); its UNBRIDGE takes the port's slot, which is free. `made` is
false when the answer was DONE with WORKING, so that no bridge stands. Which spare that UNBRIDGE concerns is the
Driver's bridge as last known (`bridgeKnown`; DESIGN CHOICE, log 11). -/
def bridgeEnd (s : State) (p : Port) (ok made : Bool) : State :=
  match s.exr.step with
  | none => s
  | some st =>
    let next := some ⟨.unbridge, .exerciser, false⟩
    if ok then putQueue (markStep s { st with stage := .unbridge }) p next
    else if made then putQueue (markStep s { st with stage := .unbridge, failed := true }) p next
    else endStep s .fail

/-- The end of an UNBRIDGE of the step in flight (R125). -/
def unbridgeEnd (s : State) (ok : Bool) : State :=
  match s.exr.step with
  | none => s
  | some st => if ok then endStep s st.result else endStep s .fail

/-- A spare already given by the readback to a lower-numbered port (R85, R118). -/
def State.given (s : State) (p : Port) (sp : Spare) : Bool :=
  (idx 16).any fun q => q < p && decide ((s.dport q).placed = some sp)

/-- The readback's placement of a port at the end of its QUERY (R118): the position given to its record, the readback
mark, and an UNBRIDGE of the Driver's own where a bridge is found. -/
def queryEnd (s : State) (p : Port) (r : Option Reply) : State :=
  match r with
  | some (.done receive bridge) =>
    let s1 := match receive with
      | .working => s
      | .unknown => s.setDport p { s.dport p with mark := true }
      | .spare sp =>
        if s.given p sp then s.setDport p { s.dport p with mark := true }
        else s.setDport p { s.dport p with placed := some sp }
    match bridge with
    | .spare _ => ask s1 p .unbridge .driver
    | _ => s1
  | _ => s.setDport p { s.dport p with mark := true }

/-- The end handed to the maker (R113 step 4). -/
def tellMaker (s : State) (p : Port) (e : Entry) (r : Option Reply) : State :=
  let ok := e.cmd.succeeds r
  match e.cmd with
  | .connect sp => connectEnd s p sp ok
  | .restore => restoreEnd s p ok
  | .bridge _ =>
    let made := match r with
      | some (.done _ b) => decide (b ≠ .working)
      | _ => true
    bridgeEnd s p ok made
  | .unbridge => if e.maker = .exerciser then unbridgeEnd s ok else s
  | .query => queryEnd s p r

/-! ## Step 5 of R113 -/

/-- The port's waiting need joins the queue (R109), replacing an entry that step 4 placed (R110). -/
def placeWaiting (s : State) (p : Port) : State :=
  match (s.dport p).waiting with
  | some e => ask (s.setDport p { s.dport p with waiting := none }) p e.cmd e.maker e.replaced
  | none => s

/-- Steps 1 to 5 of R113 at the end of the actuation in flight. -/
def actuationSteps (s : State) (f : InFlight) (r : Option Reply) : State :=
  let s1 := noteReport (startMask { s with drv := { s.drv with inFlight := none } } f.spare) f.port f.entry.cmd r
  let s2 := if f.entry.cmd.succeeds r then noteSuccess s1 f.port f.entry else noteFailure s1 f
  placeWaiting (protect (tellMaker s2 f.port f.entry r)) f.port

/-- The end of the actuation in flight (R113); the next entry is chosen at the end of the event. -/
def actuationEnd (s : State) (f : InFlight) (r : Option Reply) : State := actuationPart s (actuationSteps s f r)

end Sys2Proof.Machine
end

