-- ==== Sys2Proof/Machine/References.lean ====
section
/-! DEFINITION. Timing references (chapter 9) and the Frequency Unit's arithmetic (chapter 10): signal fails,
qualification, selection, timing state, correction events, announced QL, trace list and squelch. -/

namespace Sys2Proof.Machine

/-! ## Candidates -/

/-- OCA, OCB and BAY by number. -/
def bay : Cand := 6

/-- The line candidate's number n of LNn, for candidates 2 to 5. -/
def lineOf (c : Cand) : Option (Fin 4) :=
  if h : 2 ≤ c.val ∧ c.val < 6 then some ⟨c.val - 2, by omega⟩ else none

/-- The nominated port of a line candidate. -/
def State.nominee (s : State) (c : Cand) : Option Port := (lineOf c).bind fun i => tget s.config.nominated i

/-- A candidate is unused by the configuration: priority 0, a line candidate nominated to no port, or BAY without an
upstream (9.1). -/
def candUnused (g : Config) (c : Cand) : Bool :=
  tget g.prio c == 0 ||
    (match lineOf c with
      | some i => (tget g.nominated i).isNone
      | none => false) ||
    (decide (c = bay) && g.upstream.isNone)

/-- The receiver that feeds a line candidate (R131): the port's own while its selection is WORKING, the spare's while
it is a spare. -/
def State.source (s : State) (c : Cand) : Option Recv :=
  (s.nominee c).map fun p => match (s.prec p).selection with
    | none => portRecv p
    | some sp => spareRecv sp

/-- The upstream's announce content, while its record is PRESENT and holds one (R133). -/
def State.upstream (s : State) : Option Announce :=
  match s.config.upstream with
  | some n => if (s.peer n).present then (s.peer n).content else none
  | none => none

/-- A trace list holds a station number twice. -/
def hasRepeat : List Byte → Bool
  | [] => false
  | x :: xs => xs.contains x || hasRepeat xs

/-- The causes of a signal fail, in the order of R146. -/
inductive FailCause where
  | noEdges
  | source
  | upstreamAbsent
  | upstreamQl7
  | loop
  | traceFull
  | traceInvalid
  | isolated
deriving DecidableEq, Repr

/-- The receiver that feeds a line candidate fails (R132): SF of the port while its selection is WORKING, LOS or LOW of
the spare's receiver while it is a spare. -/
def State.sourceFails (s : State) (c : Cand) : Bool :=
  match s.nominee c with
  | none => false
  | some p => match (s.prec p).selection with
    | none => s.sf p
    | some sp => (s.recv (spareRecv sp)).los.active || (s.recv (spareRecv sp)).low.active

/-- The causes that stand against BAY (R133), in the order of R146. -/
def State.bayCauses (s : State) : List FailCause :=
  (if (s.cand bay).noEdges then [.noEdges] else []) ++
  (match s.upstream with
    | none => [.upstreamAbsent]
    | some a =>
      (if a.ql = 7 then [FailCause.upstreamQl7] else []) ++
      (if a.trace.contains (BitVec.ofNat 8 s.own.val) then [.loop] else []) ++
      (if a.trace.length = 8 then [.traceFull] else []) ++
      (if hasRepeat a.trace || a.trace.any (fun b => decide (31 < b.toNat)) then [.traceInvalid] else [])) ++
  (if s.peers.isolated then [.isolated] else [])

/-- The causes that stand against a candidate (R132, R133). -/
def State.failCauses (s : State) (c : Cand) : List FailCause :=
  if c = bay then s.bayCauses
  else match lineOf c with
    | some _ => if s.sourceFails c then [.source] else []
    | none => if (s.cand c).noEdges then [.noEdges] else []

/-- Signal fail of a candidate (R132, R133). -/
def State.fails (s : State) (c : Cand) : Bool := !(s.failCauses c).isEmpty

/-- The QL in use of a candidate (R131): configured, or for BAY the upstream's latest announced. -/
def State.qlOf (s : State) (c : Cand) : Option Nat :=
  if h : c.val < 6 then some (tget s.config.ql ⟨c.val, h⟩) else s.upstream.map (·.ql)

/-- A candidate after its signal fail rises or falls (R134, R141, R150): a rise abandons the gate, makes F NONE and a
QUALIFYING or QUALIFIED candidate FAILED; at a fall a FAILED candidate is QUALIFYING with count 0. -/
def CandRec.judged (r : CandRec) (fail : Bool) : CandRec :=
  if r.sigFail = fail then r
  else if fail then
    { r with
      sigFail := true
      gate := false
      f := none
      good := 0
      state := if r.state = .qualifying ∨ r.state = .qualified then .failed else r.state }
  else
    { r with
      sigFail := false
      good := 0
      state := if r.state = .failed then .qualifying else r.state }

/-- The signal fails are re-judged; an unused candidate takes no events (9.1, R132–R134). -/
def judgeFails (s : State) : State :=
  { s with tim := { s.tim with cands := tab fun c =>
      if (s.cand c).state = .unused then s.cand c else (s.cand c).judged (s.fails c) } }

/-! ## Selection -/

/-- A candidate's rank as one number, lower first: QL, priority, fixed order (R138). -/
def State.rankOf (s : State) (c : Cand) : Nat :=
  ((s.qlOf c).getD 7) * 256 + tget s.config.prio c * 8 + c.val

/-- The best candidate: the highest-ranked QUALIFIED one (R138). -/
def State.best (s : State) : Option Cand :=
  ((idx 7).filter fun c => decide ((s.cand c).state = .qualified)).foldl
    (fun acc c => match acc with
      | none => some c
      | some b => if s.rankOf c < s.rankOf b then some c else some b) none

/-- The candidate is QUALIFIED. -/
def State.isQualified (s : State) (c : Cand) : Bool := decide ((s.cand c).state = .qualified)

/-- A QUALIFIED candidate has a QL strictly lower than another's (R139). -/
def State.betterQl (s : State) (c : Cand) : Bool :=
  (idx 7).any fun x => s.isQualified x && decide ((s.qlOf x).getD 7 < (s.qlOf c).getD 7)

/-- The selection by R139: forced, revertive, or non-revertive. -/
def State.select (s : State) : Option Cand :=
  match s.tim.force with
  | some c => if s.isQualified c then some c else none
  | none =>
    if s.config.revertive then s.best
    else match s.tim.selection with
      | none => s.best
      | some c => if !s.isQualified c || s.betterQl c then s.best else some c

/-! ## The timing state -/

/-- The timing state changes, which requests a triggered announce (R144, R151). -/
def setTiming (s : State) (st : TimingState) : State :=
  triggerIf (decide (s.freq.state ≠ st)) { s with freq := { s.freq with state := st } }

/-- The mean of the history, truncated toward zero (R157). -/
def meanK (h : List Int) : Int := h.sum.tdiv h.length

/-- Holdover entry (R157): HOLDOVER with H, t_entry and the timer from 0 when the history holds 4 or more, else
FREERUN. -/
def enterHoldover (s : State) : State :=
  if 4 ≤ s.freq.history.length then
    setTiming { s with freq := { s.freq with
      h := some (meanK s.freq.history), tEntry := some s.freq.temp, hoTimer := some 0 } } .holdover
  else setTiming s .freerun

/-- Entry to ACQUIRING with lock count 0; the holdover timer stops and is cleared (R151). -/
def enterAcquiring (s : State) : State :=
  setTiming { s with freq := { s.freq with lock := 0, hoTimer := none } } .acquiring

/-- The selection is re-evaluated (R139) and the timing state follows it (R151). -/
def reselect (s : State) : State :=
  if s.select = s.tim.selection then s
  else
    let s1 := { s with tim := { s.tim with selection := s.select } }
    match s.select with
    | some _ => enterAcquiring s1
    | none => if s.freq.state = .locked ∨ s.freq.state = .acquiring then enterHoldover s1 else s1

/-! ## What is announced -/

/-- QL before squelch (R142). -/
def State.qlBefore (s : State) : Nat :=
  match s.freq.state with
  | .locked | .acquiring => (s.tim.selection.bind s.qlOf).getD 6
  | .holdover => if s.hoexpired then 6 else s.config.hoQl
  | .freerun => 6

/-- The trace list announced (R142): the own number, followed by the upstream's list while BAY is selected. -/
def State.traceNow (s : State) : List Byte :=
  let own := BitVec.ofNat 8 s.own.val
  match s.freq.state with
  | .locked | .acquiring =>
    if s.tim.selection = some bay then own :: ((s.upstream.map (·.trace)).getD []) else [own]
  | _ => [own]

/-- Squelch, the announced QL and the trace list are computed again (R142, R143); a change of QL or trace list requests
a triggered announce (R144). -/
def announceTiming (s : State) : State :=
  let sq := decide (s.config.squelchMin < s.qlBefore)
  let ql := if sq then 7 else s.qlBefore
  triggerIf (decide (ql ≠ s.tim.ql) || decide (s.traceNow ≠ s.tim.trace))
    { s with tim := { s.tim with squelch := sq, ql := ql, trace := s.traceNow } }

/-- Everything of an event that bears on timing, in its order: signal fails, selection, announced values. -/
def timingAll (s : State) : State := announceTiming (reselect (judgeFails s))

/-- The Timing Selector and the Frequency Unit at the end of an event, from the settling of the image on (R147). -/
def timing (s : State) : State := if s.settled then timingPart s (timingAll s) else s

/-! ## Measuring (10.2) -/

/-- C0, the count of one nominal second (R149). -/
def nominal : Int := 25000000

/-- The measured offset with its saturation flag from the count C (R149). -/
def measure (count : Nat) : Int × Bool :=
  let raw := nominal - (count : Int)
  if raw < -2047 then (-2047, true) else if 2047 < raw then (2047, true) else (raw, false)

/-- The filtered offset after a completion (R150). -/
def filter (f : Option Int) (d : Int) : Int :=
  match f with
  | none => 16 * d
  | some f => f + (16 * d - f).tdiv 8

/-- The judgement of a completion of a QUALIFYING or QUALIFIED candidate (R136). -/
def CandRec.completed (r : CandRec) (g : Config) (d : Int) (sat : Bool) : CandRec :=
  if sat || decide (g.reject < d.natAbs) then
    if r.state = .qualifying ∨ r.state = .qualified then { r with state := .qualifying, good := 0 } else r
  else if r.state = .qualifying ∧ d.natAbs ≤ g.accept then
    if r.good + 1 = 3 then { r with state := .qualified, good := 0 } else { r with good := r.good + 1 }
  else r

/-! ## Correction events (10.3 to 10.5) -/

/-- Clamped to ±b. -/
def clampInt (b x : Int) : Int := if x < -b then -b else if b < x then b else x

/-- The temperature compensation TC of a code (R158), each quotient truncated toward zero. -/
def tempComp (g : Config) (t : BitVec 9) : Int :=
  let t : Int := t.toNat
  if t ≤ g.tb1 then (g.m1 * (t - g.tb1)).tdiv 64
  else if t ≤ g.tb2 then (g.m2 * (t - g.tb1)).tdiv 64
  else (g.m2 * ((g.tb2 : Int) - g.tb1)).tdiv 64 + (g.m3 * (t - g.tb2)).tdiv 64

/-- The target T of a correction event (R153). -/
def State.target (s : State) : Int :=
  match s.freq.state with
  | .locked | .acquiring => ((s.tim.selection.map s.cand).bind (·.f)).getD s.freq.k
  | .holdover =>
    clampInt 32767 ((s.freq.h.getD 0) + tempComp s.config s.freq.temp -
      tempComp s.config (s.freq.tEntry.getD s.freq.temp))
  | .freerun => s.freq.k

/-- K after a correction event (R154). -/
def slew (step : Nat) (t k : Int) : Int := clampInt 32767 (k + clampInt step (t - k))

/-- The lock test of R155 on the size of T − K_new: the timing state and the lock count after it. -/
def lockTest (st : TimingState) (lock : Nat) (size : Nat) : TimingState × Nat :=
  match st with
  | .acquiring =>
    if size ≤ 16 then if lock + 1 = 4 then (.locked, 0) else (.acquiring, lock + 1)
    else (.acquiring, 0)
  | .locked => if size ≤ 64 then (.locked, lock) else (.acquiring, 0)
  | st => (st, lock)

/-- K is appended to the ring of 16; the seventeenth overwrites the oldest (R156). -/
def feed (h : List Int) (k : Int) : List Int := if h.length < 16 then h ++ [k] else h.drop 1 ++ [k]

/-- A correction event (R152–R156): T, the slew, the lock test, the history feed. `hit` withholds the append (R156). -/
def correct (s : State) (hit : Bool) : State :=
  let t := s.target
  let k := slew s.config.slew t s.freq.k
  let (st, lock) := lockTest s.freq.state s.freq.lock (t - k).natAbs
  let append := decide (s.freq.state = .locked) && decide (st = .locked) && !hit
  setTiming { s with freq := { s.freq with
    t := some t
    k := k
    lock := lock
    history := if append then feed s.freq.history k else s.freq.history } } st

end Sys2Proof.Machine
end

