-- ==== Sys2Proof/Machine/AlarmUnit.lean ====
section
/-! DEFINITION. The Alarm Unit at an event (chapter 11): the points worked out, then the log records, the bay alarm
lines and the summary (R165). -/

namespace Sys2Proof.Machine

/-- A point worked out anew (R165–R170) in normal running: active, latched, masked, suppressed, effective severity,
reported and acknowledged, in that order. -/
def State.pointNow (s : State) (i : Fin 158) : Point :=
  let k := (pointOf i).1
  let sc := (pointOf i).2
  let old := tget s.alm.points i
  let active := s.cond k sc
  let latched := old.latched || (active && s.latchable k)
  let masked := s.masked k sc
  let suppressed := s.suppressed k sc
  let severity := s.severityOf k sc
  let reported := (active || latched) && !masked && !suppressed
  let rises := decide (old.severity.rank < severity.rank)
  ⟨active, latched, masked, suppressed, severity, reported, old.acked && reported && !rises⟩

/-- A point before the start-up evaluation (R177): active, masked, suppressed and effective severity followed, the rest
clear; in CONFIG-HALT the CFGDEF point is held reported (R173). -/
def State.pointQuiet (s : State) (i : Fin 158) : Point :=
  let k := (pointOf i).1
  let sc := (pointOf i).2
  ⟨s.cond k sc, false, s.masked k sc, s.suppressed k sc, s.severityOf k sc,
    s.halted && decide (k = .cfgdef), false⟩

/-- Every point worked out. -/
def State.pointsNow (s : State) : Vector Point 158 :=
  if s.running then tab s.pointNow else tab s.pointQuiet

/-- The record a point's change builds (R175): at most one for each point and event. -/
def changeOf (old new : Point) : Option Transition :=
  if new.reported && !old.reported then some .raised
  else if old.reported && !new.reported then some .cleared
  else if new.reported && decide (new.severity ≠ old.severity) then some .changed
  else none

/-- The records of one event, in the order of the point numbers (R175). -/
def records (old new : Vector Point 158) (seconds : BitVec 32) : List LogRec :=
  (idx 158).filterMap fun i =>
    (changeOf (tget old i) (tget new i)).map fun t => ⟨seconds, i, t, (tget new i).severity⟩

/-- The capacity of the log (11.5). -/
def logCapacity : Nat := 32

/-- A point pulls the line of its severity: reported and unacknowledged (R173). -/
def pulls (ps : Vector Point 158) (sev : Severity) : Bool :=
  (idx 158).any fun i =>
    (tget ps i).reported && !(tget ps i).acked && decide ((tget ps i).severity = sev)

/-- The number of reported points of a severity, saturating at 255 (R174). -/
def countOf (ps : Vector Point 158) (sev : Severity) : Nat :=
  min 255 ((idx 158).countP fun i => (tget ps i).reported && decide ((tget ps i).severity = sev))

/-- The summary of the points (R174). -/
def summaryOf (ps : Vector Point 158) : Summary where
  critical := countOf ps .critical
  major := countOf ps .major
  minor := countOf ps .minor
  warning := countOf ps .warning
  highest :=
    if pulls ps .critical then some .critical
    else if pulls ps .major then some .major
    else if pulls ps .minor then some .minor
    else if pulls ps .warning then some .warning
    else none

/-- The number of LOGOVR's point (R163). -/
def logovrPoint : Fin 158 := 145

/-- The Alarm Unit after an event in normal running (R165, R173–R175). `old` holds the points as they stood before the
event. Records that find the log full are dropped and make LOGOVR active; its own record is dropped with them. -/
def Alarm.settle (s : State) (old : Vector Point 158) : Alarm :=
  let ps := s.pointsNow
  let rs := records old ps s.freq.seconds
  let room := logCapacity - s.alm.log.length
  let full := s.alm.logOvr || decide (room < rs.length)
  let a := { s.alm with points := ps, log := s.alm.log ++ rs.take room, logOvr := full }
  let ps' := if full && !s.alm.logOvr then
      tset ps logovrPoint (State.pointNow { s with alm := a } logovrPoint)
    else ps
  { a with
    points := ps'
    crit := pulls ps' .critical
    maj := pulls ps' .major
    min := pulls ps' .minor
    summary := summaryOf ps' }

/-- The Alarm Unit before the start-up evaluation (R173, R177): it follows the conditions, reports nothing and pulls no
line, but for MAJ in CONFIG-HALT. -/
def Alarm.follow (s : State) : Alarm :=
  { s.alm with
    points := s.pointsNow
    crit := false
    maj := s.halted
    min := false
    summary := Summary.zero }

/-- The Alarm Unit at the end of an event that began with the points `old`: it changes its own state, and requests a
triggered announce when the summary differs from the one before the event (R174). -/
def alarms (old : Alarm) (s : State) : State :=
  let a := if s.running then Alarm.settle s old.points else Alarm.follow s
  triggerIf (decide (a.summary ≠ old.summary)) { s with alm := a }

end Sys2Proof.Machine
end

