-- ==== Sys2Proof/Machine/Events.lean ====
section
/-! DEFINITION. What every event that changes a condition ends with: the changes handed on to the Protection Engine,
the driver link, the timing blocks and the Alarm Unit, in that order (R10, R24, R90, R113, R144, R165). -/

namespace Sys2Proof.Machine

/-! ## Readback's end -/

/-- The queue is empty, nothing is in flight and no need waits (R118). -/
def State.driverQuiet (s : State) : Bool :=
  s.drv.inFlight.isNone && (idx 16).all fun p => (s.dport p).queue.isNone && (s.dport p).waiting.isNone

/-- A record takes up its read-back position (R85): on a spare it holds a SETTLED claim there and waits in SWITCHED
with its class to be decided. -/
def takePosition (s : State) (p : Port) : State :=
  match (s.dport p).placed with
  | some sp =>
    refHit (updRec s p fun r =>
      { r with state := .switched, selection := some sp, claim := some ⟨sp, .undecided, true⟩ }) p
  | none => s

/-- Readback ends and the listen period of 1000 ms begins (R118, R204). -/
def beginListen (s : State) : State :=
  let s1 := (idx 16).foldl takePosition s
  { s1 with phase := .listening, listenTimer := some 100 }

/-- Readback ends at the first moment when every QUERY and UNBRIDGE it placed has ended and the queue is empty (R118). -/
def readbackCheck (s : State) : State :=
  if s.phase = .readback ∧ s.driverQuiet then beginListen s else s

/-! ## An event's end -/

/-- The changes of an event are handed on: to the Protection Engine (R90), to the driver link (R111), to readback's
end (R118), and to the timing blocks (R134, R139). -/
def handOn (s : State) : State := timing (readbackCheck (arbitrate (protect s)))

/-- An event's end: the changes are handed on and the Alarm Unit works them out against the points before the event
`s0` (R165). -/
def conclude (s0 s : State) : State := alarms s0.alm (handOn s)

end Sys2Proof.Machine
end

