-- ==== Sys2Proof/Machine/Peers.lean ====
section
/-! DEFINITION. The Peer View Table (chapter 4): refresh, intake of an announce, the unheard test, and the meanings of
PEER_EXPIRY, QUARANTINE_END, SILENCE_TIMER_EXPIRY and UNHEARD_TIMER_EXPIRY. -/

namespace Sys2Proof.Machine

/-- The record of the source is refreshed and the silence timer restarted; isolation ends (R53, R60, R63). -/
def refresh (s : State) (n : Station) : State :=
  let s1 := s.setPeer n { s.peer n with present := true, age := some 0 }
  triggerIf s.peers.isolated { s1 with peers := { s1.peers with isolated := false, silence := some 300 } }

/-- A PRESENT record other than the own that holds announce content takes part in the unheard test (R61). -/
def State.heardBy (s : State) (n : Station) : Option (BitVec 32) :=
  if (s.peer n).present ∧ n ≠ s.own then (s.peer n).content.map (·.heard) else none

/-- The unheard test: some record takes part, and every one that does leaves the own number out (R61). -/
def State.unheardTest (s : State) : Bool :=
  (idx 32).any (fun n => (s.heardBy n).isSome) &&
    (idx 32).all fun n => match s.heardBy n with
      | some h => !h.getMsbD s.own.val
      | none => true

/-- The unheard test is evaluated and its timer of 1000 ms started or stopped (R61, R62); not before the end of the
listen period (R64). While the station is unheard the timer is stopped. -/
def unheardEval (s : State) : State :=
  if s.running then
    { s with peers := { s.peers with unheardTimer :=
        if s.peers.unheard then none
        else if s.unheardTest then some (s.peers.unheardTimer.getD 100) else none } }
  else s

/-- An ANNOUNCE whose heard set includes the own number ends the unheard state (R62, R63). -/
def unheardEnd (s : State) (a : Announce) : State :=
  if s.peers.unheard ∧ a.heard.getMsbD s.own.val then
    requestTrigger { s with peers := { s.peers with unheard := false } }
  else s

/-- The intake of an ANNOUNCE (R53, R54, R56): the record refreshed, its content replaced, its quarantine ended. -/
def takeAnnounce (s : State) (n : Station) (a : Announce) : State :=
  let s1 := refresh s n
  let s2 := s1.setPeer n { s1.peer n with content := some a, quarantine := none }
  unheardEval (unheardEnd s2 a)

/-- A PRESENT record whose age has reached 2000 ms (R55). -/
def PeerRec.due (r : PeerRec) : Bool := r.present && decide (200 ≤ r.age.getD 0)

/-- The record of a peer after its expiry (R55): absent, its claims frozen into a quarantine of 10 s unless one still
runs, its content NONE. -/
def PeerRec.expired (r : PeerRec) : PeerRec where
  present := false
  age := r.age
  content := none
  quarantine := match r.quarantine with
    | some q => some q
    | none => some ⟨(r.content.map (·.claims)).getD [], tenSeconds⟩

/-- PEER_EXPIRY (R55): a PRESENT record of age 2000 ms or more expires; any other takes no expiry, so that a frame taken
first, which sets the age to 0, leaves none. -/
def execPeerExpiry (n : Station) (s : State) : Host.Outcome State Fault Refusal :=
  if (s.peer n).due then
    .next (conclude s (unheardEval (s.setPeer n (s.peer n).expired)))
  else .next s

/-- QUARANTINE_END (R56): a quarantine whose timer has run out ends and its frozen claims leave the view. -/
def execQuarantineEnd (n : Station) (s : State) : Host.Outcome State Fault Refusal :=
  if ranOut ((s.peer n).quarantine.map (·.timer)) then
    .next (conclude s (s.setPeer n { s.peer n with quarantine := none }))
  else .next s

/-- SILENCE_TIMER_EXPIRY (R60, R63): the station becomes isolated; a frame taken first has restarted the timer, and it does
not. -/
def execSilenceTimerExpiry (s : State) : Host.Outcome State Fault Refusal :=
  if ranOut s.peers.silence then
    .next (conclude s (requestTrigger { s with peers := { s.peers with isolated := true, silence := none } }))
  else .next s

/-- UNHEARD_TIMER_EXPIRY (R62, R63): the station becomes unheard. -/
def execUnheardTimerExpiry (s : State) : Host.Outcome State Fault Refusal :=
  if ranOut s.peers.unheardTimer then
    .next (conclude s (requestTrigger { s with peers := { s.peers with unheard := true, unheardTimer := none } }))
  else .next s

end Sys2Proof.Machine
end

