-- ==== Sys2Proof/Machine/Light.lean ====
section
/-! DEFINITION. The Receiver Scanner, the Tracer Decoder and the Change Capture Queue at a slot (chapters 1 and 2), and the
meanings of SLOT_COMPLETION and SAMPLE_ANSWER. -/

namespace Sys2Proof.Machine

/-! ## Persistence (1.2) -/

/-- A condition after one counted sample (R5): a raise sample while inactive, a clear sample while active, adds to the
counter; any other sets it to 0; at the target the condition changes and its counter is 0. -/
def Condition.take (c : Condition) (target : Nat) (raise clear : Bool) : Condition :=
  if (if c.active then clear else raise) then
    if target ≤ c.count + 1 then ⟨!c.active, 0⟩ else ⟨c.active, c.count + 1⟩
  else ⟨c.active, 0⟩

/-- The three conditions of a receiver after a counted sample (R5–R8). -/
def RecvScan.count (r : RecvScan) (g : Config) (x : Sample) : RecvScan :=
  { r with
    los := r.los.take 2 x.lol (!x.lol)
    low := r.low.take 3 (decide (x.code.toNat < g.failThr)) (decide (g.failClear ≤ x.code.toNat))
    deg := r.deg.take g.soak (decide (x.code.toNat < g.degThr)) (decide (g.degClear ≤ x.code.toNat)) }

/-- A good sample replaces the last good one and ends the errors; an error counts up to 255 (R3). -/
def RecvScan.hold (r : RecvScan) (good : Option Sample) : RecvScan :=
  match good with
  | some x => { r with last := x, errors := 0 }
  | none => { r with errors := min 255 (r.errors + 1) }

/-- The spare of a receiver 16–19. -/
def spareOf (r : Recv) : Option Spare := if h : 16 ≤ r.val then some ⟨r.val - 16, by omega⟩ else none

/-- The mask countdown of a receiver (R11); working receivers have none. -/
def State.maskLeft (s : State) (r : Recv) : Nat :=
  match spareOf r with
  | some sp => tget s.scan.masks sp
  | none => 0

/-- The countdowns after a masked sample of a receiver (R12). -/
def masksAfter (masks : Vector Nat 4) (r : Recv) : Vector Nat 4 :=
  match spareOf r with
  | some sp => tset masks sp (tget masks sp - 1)
  | none => masks

/-- The Scanner at the slot completion of its receiver (R1–R5, R12): one sample is taken, good or held, and counted unless
masked; the next receiver is requested. -/
def State.scanSlot (s : State) : Scanner :=
  let r := s.scan.next
  let x := (s.recv r).hold s.scan.kept
  { s.scan with
    next := r + 1
    kept := none
    recvs := tset s.scan.recvs r (if 0 < s.maskLeft r then x else x.count s.config x.last)
    masks := masksAfter s.scan.masks r }

/-! ## The Tracer Decoder (2.2, 2.3) -/

/-- A valid tracer word: its check is site + 7 × station + 13 × port modulo 64 (R19). -/
def TracerWord.valid (w : TracerWord) : Bool :=
  decide (w.check.toNat = (w.site.toNat + 7 * w.station.toNat + 13 * w.port.toNat) % 64)

/-- The identity of a valid tracer sample; none for an invalid one (R19). -/
def tracerIdentity (x : Sample) : Option Identity :=
  if x.tracer && TracerWord.valid x.word then some ⟨x.word.site, x.word.station, x.word.port⟩ else none

/-- A receiver of the Decoder after a sample, before any auto-learn (R20, R21). -/
def RecvDec.take (d : RecvDec) (x : Option Identity) : RecvDec :=
  match x with
  | some i =>
    let n := if d.cand = some i then min 8 (d.repeats + 1) else 1
    { d with
      cand := some i
      repeats := n
      absence := 0
      ident := if n = 8 then some i else d.ident }
  | none =>
    let n := min 100 (d.absence + 1)
    { d with
      cand := none
      repeats := 0
      absence := n
      ident := if n = 100 then none else d.ident }

/-- Auto-learn (R22) at a change of the decoded identity: an UNSET expectation takes it, on a spare receiver only with a
port field of 16–19. -/
def RecvDec.autoLearn (d : RecvDec) (g : Config) (r : Recv) : RecvDec :=
  match d.ident with
  | some i =>
    if g.autoLearn && d.expect.isNone && (decide (r.val < 16) ||
        (decide (16 ≤ i.port.toNat) && decide (i.port.toNat ≤ 19))) then { d with expect := some i }
    else d
  | none => d

/-- The kind of a capture record, by the expectation before any auto-learn (R29). -/
def captureKind (new expect : Option Identity) : CaptureKind :=
  if new.isNone then .lost
  else if expect.isNone then .unlearned
  else if new = expect then .isMatch
  else .mismatch

/-- A record joins the queue of four, or is dropped and makes CAPLOST active (R30). -/
def Capture.append (c : Capture) (r : CaptureRec) : Capture :=
  if c.queue.length < 4 then { c with queue := c.queue ++ [r] } else { c with lost := true }

/-- The Decoder and the Change Capture Queue at the slot completion of a receiver, from the sample taken (R4, R20–R22,
R29, R30). -/
def decodeSlot (s : State) (r : Recv) (x : Sample) : State :=
  let old := s.decv r
  let new := old.take (tracerIdentity x)
  if new.ident = old.ident then { s with dec := { s.dec with recvs := tset s.dec.recvs r new } }
  else
    { s with
      dec := { s.dec with recvs := tset s.dec.recvs r (new.autoLearn s.config r) }
      cap := s.cap.append ⟨r, old.ident, new.ident, s.freq.seconds, captureKind new.ident old.expect⟩ }

/-! ## The rows -/

/-- SLOT_COMPLETION (R1): from the settling of the image on, the slot's receiver takes its sample, and the changes of its
conditions and identity are handed on as one event (R10, R24). -/
def execSlotCompletion (s : State) : Host.Outcome State Fault Refusal :=
  if s.settled then
    let s1 := { s with scan := s.scanSlot }
    .next (conclude s (decodeSlot s1 s.scan.next (s1.recv s.scan.next).last))
  else .next s

/-- SAMPLE_ANSWER (R2): the first good answer of the slot is kept; any other is discarded. -/
def execSampleAnswer (a : SampleAnswer) (s : State) : Host.Outcome State Fault Refusal :=
  if s.settled && s.scan.kept.isNone && a.checksumOk && decide (a.recv.toNat = s.scan.next.val) then
    .next { s with scan := { s.scan with kept := some a.sample } }
  else .next s

end Sys2Proof.Machine
end

