-- ==== Sys2Proof/WellFormed.lean ====
section
/-! DEFINITION. Which commands are well formed: the operands lie where the manual lets them lie. An ill-formed
command is not an error of the part (a parameter out of range is REFUSED RANGE, R181; an answer for a receiver
that does not exist is discarded, R2); the check says which terms stand for a command the manual writes. -/

namespace Sys2Proof

/-- A frame's target is 0–31 or 63 for ALL (3.2, R37). -/
def targetOk (t : BitVec 6) : Bool := t.toNat < 32 || t.toNat == 63

/-- A byte below a bound: the ranges of the parameter bytes in 12.2. -/
def below (n : Nat) (b : Byte) : Bool := b.toNat < n

/-- OCA, OCB and BAY have an edge test; "a line candidate has no edge test" (R135). -/
def hasEdgeTest (c : Cand) : Bool := c.val < 2 || c.val == 6

/-- A candidate byte of a request, 1–7 (12.2). -/
def candByte (c : Byte) : Bool := 1 ≤ c.toNat && c.toNat ≤ 7

/-- A target byte of PSW FORCE or MANUAL: a spare 0–3, or 255 for ANY (12.2). -/
def pswTarget (t : Byte) : Bool := t.toNat < 4 || t.toNat == 255

/-- A read's image and the CRC after it fit the memory of 256 bytes (13.2). -/
def imageFits (r : ConfigRead) : Bool :=
  match r with
  | .completed image _ _ => image.length ≤ 254
  | .noAnswer => true

/-- Well-formed commands. -/
def Instr.wellFormed : Instr → Bool
  | .fullReset _ => true
  | .configReadEnd r _ => imageFits r
  | .configReadTimeout _ => true
  | .slotCompletion => true
  | .sampleAnswer a => below 20 a.recv
  | .lineActivity => true
  | .lineIdle => true
  | .frameArrival bits => !bits.isEmpty
  | .attemptStart _ => true
  | .collision _ => true
  | .frameSent _ => true
  | .spacingTimerExpiry => true
  | .routineTimerExpiry => true
  | .linefaultTimerExpiry => true
  | .peerExpiry _ => true
  | .quarantineEnd _ => true
  | .silenceTimerExpiry => true
  | .unheardTimerExpiry => true
  | .holdoffExpiry _ => true
  | .claimWindowExpiry _ => true
  | .wtrExpiry _ => true
  | .driverAnswer _ => true
  | .allowanceExpiry => true
  | .recoveryTimerExpiry _ _ => true
  | .retryTimerExpiry _ => true
  | .stepTimerExpiry => true
  | .edgeLoss c => hasEdgeTest c
  | .edgeReturn c => hasEdgeTest c
  | .gateCompletion _ _ => true
  | .gateOverrun _ => true
  | .secondsTick _ => true
  | .holdoverLimitExpiry => true
  | .listenEnd => true
  | .stat _ t => targetOk t
  | .view _ t n => targetOk t && below 32 n
  | .port _ t p part => targetOk t && below 16 p && (part == 1 || part == 2)
  | .spar _ t s => targetOk t && below 4 s
  | .timg _ t c => targetOk t && below 8 c
  | .logr _ t _ => targetOk t
  | .capr _ t => targetOk t
  | .lrn _ t r => targetOk t && below 20 r
  | .lrnAll _ t => targetOk t
  | .maskOn _ t p => targetOk t && below 16 p
  | .maskOff _ t p => targetOk t && below 16 p
  | .clrl _ t => targetOk t
  | .aco _ t => targetOk t
  | .pswForce _ t p x => targetOk t && below 16 p && pswTarget x
  | .pswManual _ t p x => targetOk t && below 16 p && pswTarget x
  | .pswLockout _ t p => targetOk t && below 16 p
  | .pswClear _ t p => targetOk t && below 16 p
  | .slkOn _ t s => targetOk t && below 4 s
  | .slkOff _ t s => targetOk t && below 4 s
  | .trefForce _ t c => targetOk t && candByte c
  | .trefClear _ t => targetOk t
  | .trefLockoutOn _ t c => targetOk t && candByte c
  | .trefLockoutOff _ t c => targetOk t && candByte c
  | .swpStart _ t s m n k f =>
      targetOk t && below 4 s && below 2 m && below 17 n && below 2 k && (below 16 f || f == 255)
  | .swpStep _ t => targetOk t
  | .swpStop _ t => targetOk t
  | .pairClear _ t p s => targetOk t && below 16 p && below 4 s
  | .rsta _ t => targetOk t
  | .gateStart _ => true

end Sys2Proof
end

