-- ==== Sys2Proof/Machine/Frames.lean ====
section
/-! DEFINITION. The layout of frames on the bay line (3.2): bits, the CRC (R36), finding and judging a frame (R35, R37),
and the ANNOUNCE payload built and judged (R38, R47). -/

namespace Sys2Proof.Machine

/-! ## Bits and bytes -/

/-- The bits of a number of a width, most significant bit first. -/
def bitsOf {w : Nat} (x : BitVec w) : List Bool := (List.range w).map x.getMsbD

/-- The number that bits spell, most significant bit first. -/
def natOfBits (bs : List Bool) : Nat := bs.foldl (fun acc b => 2 * acc + b.toNat) 0

/-- A number of a width from its bits, most significant bit first. -/
def ofBits (w : Nat) (bs : List Bool) : BitVec w := BitVec.ofNat w (natOfBits bs)

/-- The bits of bytes in the order sent. -/
def bitsOfBytes (bs : List Byte) : List Bool := bs.flatMap bitsOf

/-- The first n bytes of a run of bits. -/
def bytesOfBits : Nat → List Bool → List Byte
  | 0, _ => []
  | n + 1, bs => ofBits 8 (bs.take 8) :: bytesOfBits n (bs.drop 8)

/-- A byte of a natural number. -/
def byte (n : Nat) : Byte := BitVec.ofNat 8 n

/-- A byte of eight flags, the first sent first. -/
def flagByte (b7 b6 b5 b4 b3 b2 b1 b0 : Bool) : Byte := ofBits 8 [b7, b6, b5, b4, b3, b2, b1, b0]

/-! ## The CRC -/

/-- One bit into the CRC register: x¹⁶ + x¹² + x⁵ + 1, most significant bit first (R36). -/
def crcBit (r : BitVec 16) (b : Bool) : BitVec 16 :=
  if r.msb != b then (r <<< 1) ^^^ 0x1021#16 else r <<< 1

/-- The CRC over bytes: preset to all ones, no final inversion (R36). -/
def crcOf (bs : List Byte) : BitVec 16 := (bitsOfBytes bs).foldl crcBit (BitVec.allOnes 16)

/-! ## Frames -/

/-- The start delimiter (3.2). -/
def delimiter : List Bool := [true, true, false, false, true, false, true, true]

/-- The preamble: alternating, beginning with 1 and ending with 0 (3.2). -/
def preamble : List Bool := (List.range 16).map fun i => i % 2 == 0

/-- The two header bytes, the length byte and the payload: what the CRC is over (R36). -/
def Frame.body (f : Frame) : List Byte :=
  (f.kind ++ f.source : BitVec 8) :: (f.pad ++ f.target : BitVec 8) :: byte f.payload.length :: f.payload

/-- The bits of a frame on the line (3.2, R36). -/
def Frame.bits (f : Frame) : List Bool :=
  preamble ++ delimiter ++ bitsOfBytes f.body ++ bitsOf (crcOf f.body)

/-- What follows the delimiter at the place i, if it stands there. -/
def afterDelimiter (bits : List Bool) (i : Nat) : Option (List Bool) :=
  if (bits.drop i).take 8 = delimiter then some (bits.drop (i + 8)) else none

/-- The search for the delimiter from the ninth bit through the thirty-second, the whole pattern inside that window
(R35; log 16). -/
def findDelimiter (bits : List Bool) : Option (List Bool) :=
  (List.range 17).findSome? fun i => afterDelimiter bits (8 + i)

/-- The frame that a run of bits carries: its fields, whole, neither truncated nor overrun, of length 0–64 and with the
CRC it carries equal to the one computed (R35, R37). -/
def frameOf (bits : List Bool) : Option Frame :=
  match findDelimiter bits with
  | none => none
  | some rest =>
    let len := natOfBits ((rest.drop 16).take 8)
    let f : Frame :=
      { kind := ofBits 3 (rest.take 3)
        source := ofBits 5 ((rest.drop 3).take 5)
        pad := ofBits 2 ((rest.drop 8).take 2)
        target := ofBits 6 ((rest.drop 10).take 6)
        payload := bytesOfBits len (rest.drop 24) }
    if len ≤ 64 ∧ rest.length = 40 + 8 * len ∧ ofBits 16 (rest.drop (24 + 8 * len)) = crcOf f.body then some f
    else none

/-- The remaining checks of R37: kind, pad, target, least payload, and a source other than the own station. -/
def Frame.accepted (f : Frame) (own : Station) : Bool :=
  decide (1 ≤ f.kind.toNat ∧ f.kind.toNat ≤ 3) && decide (f.pad = 0) && targetOk f.target &&
    (if f.kind = 3 then decide (1 ≤ f.payload.length) else true) &&
    (if f.kind = 2 then decide (2 ≤ f.payload.length) else true) &&
    decide (f.source.toNat ≠ own.val)

/-! ## The ANNOUNCE payload -/

/-- The announce code of a severity, 0 for none (3.2). -/
def severityCode : Option Severity → Nat
  | none => 0
  | some s => s.rank + 1

/-- The announce code of a timing state (3.2). -/
def TimingState.code : TimingState → Nat
  | .locked => 1
  | .acquiring => 2
  | .holdover => 3
  | .freerun => 4

/-- The two bytes of a claim, with what stands in the two low bits of the second: zeros in an announce (3.2), the mark
in a response (R181). -/
def claimBytes (port : Byte) (sp : Spare) (cls : Class) (settled : Bool) (low : BitVec 2) : List Byte :=
  [port, (BitVec.ofNat 2 sp.val ++ BitVec.ofNat 3 cls.code ++ BitVec.ofBool settled ++ low : BitVec 8)]

/-- A claim as an announce carries it. -/
def AnnClaim.bytes (c : AnnClaim) : List Byte := claimBytes c.port c.spare c.cls c.settled 0

/-- The four bytes of the heard set, station 0 first. -/
def heardBytes (h : BitVec 32) : List Byte := bytesOfBits 4 (bitsOf h)

/-- The ANNOUNCE payload (3.2). -/
def Announce.bytes (a : Announce) : List Byte :=
  [flagByte a.isolated a.unheard a.cfgdef a.fourth false false false false] ++ heardBytes a.heard ++
    [a.critical, a.major, a.minor, a.warning, byte (severityCode a.highest), byte a.claims.length] ++
    a.claims.flatMap AnnClaim.bytes ++
    [byte a.timing.code, byte a.ql, byte a.trace.length] ++ a.trace

/-- The class of a code (3.2); 0 is none. -/
def Class.ofCode (c : BitVec 3) : Option Class :=
  match c.toNat with
  | 1 => some .exercise
  | 2 => some .wtr
  | 3 => some .manual
  | 4 => some .sigdeg
  | 5 => some .sigfail
  | 6 => some .forced
  | 7 => some .lockout
  | _ => none

/-- The timing state of a code (3.2). -/
def TimingState.ofCode (b : Byte) : Option TimingState :=
  match b.toNat with
  | 1 => some .locked
  | 2 => some .acquiring
  | 3 => some .holdover
  | 4 => some .freerun
  | _ => none

/-- The highest unacknowledged severity of a code; none when the code is above 4 (R38). -/
def highestOfCode (b : Byte) : Option (Option Severity) :=
  match b.toNat with
  | 0 => some none
  | 1 => some (some .warning)
  | 2 => some (some .minor)
  | 3 => some (some .major)
  | 4 => some (some .critical)
  | _ => none

/-- A claim from its two bytes, or none where R38 calls it malformed: a low bit set, class code 0, port 16–30, or
LOCKOUT and port 31 not together. A port above 31 is not in R38's list and is taken as received. -/
def claimOf (b1 b2 : Byte) : Option AnnClaim :=
  match Class.ofCode (b2.extractLsb' 3 3) with
  | none => none
  | some cls =>
    if b2.extractLsb' 0 2 = 0 ∧ ¬(16 ≤ b1.toNat ∧ b1.toNat ≤ 30) ∧ (cls = .lockout ↔ b1.toNat = 31) then
      some ⟨b1, ⟨(b2.extractLsb' 6 2).toNat, (b2.extractLsb' 6 2).isLt⟩, cls, b2.getLsbD 2⟩
    else none

/-- n claims from the head of a payload's rest, with what follows them. -/
def claimsOf : Nat → List Byte → Option (List AnnClaim × List Byte)
  | 0, bs => some ([], bs)
  | n + 1, b1 :: b2 :: bs =>
    match claimOf b1 b2, claimsOf n bs with
    | some c, some (cs, rest) => some (c :: cs, rest)
    | _, _ => none
  | _ + 1, _ => none

/-- Two claims name the same spare (R38). -/
def sameSpare : List AnnClaim → Bool
  | [] => false
  | c :: cs => cs.any (fun d => d.spare = c.spare) || sameSpare cs

/-- The ANNOUNCE content of a payload, or none where R38 calls it malformed. -/
def announceOf (source : BitVec 5) (payload : List Byte) : Option Announce :=
  match payload with
  | fl :: h1 :: h2 :: h3 :: h4 :: cr :: ma :: mi :: wa :: hi :: n :: rest =>
    if fl.extractLsb' 0 4 = 0 ∧ n.toNat ≤ 4 then
      match highestOfCode hi, claimsOf n.toNat rest with
      | some highest, some (claims, ti :: ql :: m :: trace) =>
        match TimingState.ofCode ti with
        | some timing =>
          if 1 ≤ ql.toNat ∧ ql.toNat ≤ 7 ∧ 1 ≤ m.toNat ∧ m.toNat ≤ 8 ∧ trace.length = m.toNat ∧
              sameSpare claims = false ∧ trace.head? = some (source.setWidth 8) then
            some
              { isolated := fl.getMsbD 0
                unheard := fl.getMsbD 1
                cfgdef := fl.getMsbD 2
                fourth := fl.getMsbD 3
                heard := ofBits 32 (bitsOfBytes [h1, h2, h3, h4])
                critical := cr, major := ma, minor := mi, warning := wa
                highest := highest
                claims := claims
                timing := timing
                ql := ql.toNat
                trace := trace }
          else none
        | none => none
      | _, _ => none
    else none
  | _ => none

/-! ## The station's own announce -/

/-- The heard set: the present stations, station 0 the most significant bit, the own number's bit 0 (R59). -/
def State.heardSet (s : State) : BitVec 32 :=
  ofBits 32 ((idx 32).map fun n => (s.peer n).present && decide (n ≠ s.own))

/-- The claims announced: the highest-ranked own claim on each spare, in the order S0–S3 (R47, R87). -/
def State.announcedClaims (s : State) : List AnnClaim :=
  (idx 4).filterMap fun sp => (s.announcedOn sp).map fun e => ⟨byte e.port, sp, e.cls, e.settled⟩

/-- The announce built from the state of this instant (R47). -/
def State.announce (s : State) : Announce where
  isolated := s.peers.isolated
  unheard := s.peers.unheard
  cfgdef := s.cfgdef
  fourth := false
  heard := s.heardSet
  critical := byte s.alm.summary.critical
  major := byte s.alm.summary.major
  minor := byte s.alm.summary.minor
  warning := byte s.alm.summary.warning
  highest := s.alm.summary.highest
  claims := s.announcedClaims
  timing := s.freq.state
  ql := s.tim.ql
  trace := s.tim.trace

/-- The ANNOUNCE frame, sent with target 63 and the own number as source (R36). -/
def State.announceFrame (s : State) : Frame :=
  { kind := 1, source := s.straps, pad := 0, target := 63, payload := s.announce.bytes }

/-- The RESPONSE frame of a waiting response, sent to its requester (R36, R48). -/
def State.responseFrame (s : State) (r : Response) : Frame :=
  { kind := 2, source := s.straps, pad := 0, target := BitVec.ofNat 6 r.target.val, payload := r.payload }

/-- What the transmitter puts on the line: the bits of the frame in hand while an attempt is on the line (R36, R42). -/
def State.lineBits (s : State) : List Bool :=
  match s.line.inHand with
  | some h => if s.line.sending then h.frame.bits else []
  | none => []

end Sys2Proof.Machine
end

