-- ==== Sys2Proof/Machine/Start.lean ====
section
/-! DEFINITION. The course of a start (chapter 13): the resets, the load and settling of the configuration image, the
end of the listen period; the meanings of FULL_RESET, CONFIG_READ_END, CONFIG_READ_TIMEOUT and LISTEN_END. -/

namespace Sys2Proof.Machine

/-! ## Settling an image (R201) -/

/-- A value held within its range (the clamps of 13.2's rules). -/
def clampNat (lo hi x : Nat) : Nat := if x < lo then lo else if hi < x then hi else x

/-- The holdover QL in force: 1 is replaced by 2 and a value above 6 by 6 (R130); 0 by a free value (log 9). -/
def settledHoQl (x : Byte) : Nat :=
  if x.toNat = 0 then 2 + Config.holdoverQlOfZero.val else clampNat 2 6 x.toNat

/-- A nominated port not marked used is replaced by none (R130). -/
def settledNominee (used : BitVec 16) (p : Option Port) : Option Port := p.filter fun p => used.getLsbD p.val

/-- The own number, 30 and 31 are replaced by none as the upstream (R130). -/
def settledUpstream (own : Station) (n : Option Station) : Option Station :=
  n.filter fun n => decide (n ≠ own) && decide (n.val < 30)

/-- The breakpoint pair in force: each limited to 511, and replaced by 160 and 320 if the first is not below the
second (R148). -/
def settledBreaks (a b : BitVec 16) : Nat × Nat :=
  let x := min 511 a.toNat
  let y := min 511 b.toNat
  if x < y then (x, y) else (160, 320)

/-- The image as settled, field by field (R9, R68, R130, R148, R201). -/
def settleImage (i : RawImage) (own : Station) : Config :=
  let deg := i.degThr.toNat
  let fail := min i.failThr.toNat deg
  let hyst := min 15 i.hyst.toNat
  let reject := max 1 i.reject.toNat
  { site := i.site
    used := i.used
    maps := i.maps
    failThr := fail
    degThr := deg
    failClear := min 255 (fail + hyst)
    degClear := min 255 (deg + hyst)
    soak := clampNat 100 1000 i.soak.toNat
    maskSet := i.maskSet
    holdoff := min 100 i.holdoff.toNat
    wtr := clampNat 1 15 i.wtr.toNat
    timConseq := i.timConseq
    autoLearn := i.autoLearn
    recovery := i.recovery
    latch := i.latch
    kindMask := i.kindMask
    prio := tab fun c => (tget i.prio c).toNat
    ql := tab fun c => clampNat 1 6 (tget i.ql c).toNat
    nominated := tab fun c => settledNominee i.used (tget i.nominated c)
    upstream := settledUpstream own i.upstream
    revertive := i.revertive
    accept := min reject (max 1 i.accept.toNat)
    reject := reject
    hoQl := settledHoQl i.hoQl
    hoLimit := i.hoLimit.toNat
    squelchMin := clampNat 1 6 i.squelchMin.toNat
    slew := clampNat 1 64 i.slew.toNat
    tb1 := (settledBreaks i.tb1 i.tb2).1
    tb2 := (settledBreaks i.tb1 i.tb2).2
    m1 := i.m1.toInt
    m2 := i.m2.toInt
    m3 := i.m3.toInt }

/-- Some field of the image lies outside what its rule takes as is, so that the settling replaces it (R201). -/
def imageReplaced (i : RawImage) (own : Station) : Bool :=
  decide (i.degThr.toNat < i.failThr.toNat) || decide (15 < i.hyst.toNat) ||
  decide (i.soak.toNat < 100) || decide (1000 < i.soak.toNat) ||
  decide (100 < i.holdoff.toNat) || decide (i.wtr.toNat = 0) || decide (15 < i.wtr.toNat) ||
  (idx 6).any (fun c => decide ((tget i.ql c).toNat = 0) || decide (6 < (tget i.ql c).toNat)) ||
  (idx 4).any (fun c => decide (settledNominee i.used (tget i.nominated c) ≠ tget i.nominated c)) ||
  decide (settledUpstream own i.upstream ≠ i.upstream) ||
  decide (i.reject.toNat = 0) || decide (i.accept.toNat = 0) || decide (max 1 i.reject.toNat < i.accept.toNat) ||
  decide (i.hoQl.toNat < 2) || decide (6 < i.hoQl.toNat) ||
  decide (i.squelchMin.toNat = 0) || decide (6 < i.squelchMin.toNat) ||
  decide (i.slew.toNat = 0) || decide (64 < i.slew.toNat) ||
  decide (settledBreaks i.tb1 i.tb2 ≠ (i.tb1.toNat, i.tb2.toNat))

/-! ## The resets -/

/-- What every start begins with, the blocks already at their reset values (R199, R200): the straps are read, a number
of 0–29 begins the first read of the memory and 30 or 31 is CONFIG-HALT; what the station would announce and the alarm
points follow from the reset values (R147, R177). -/
def beginStart (s : State) (straps : BitVec 5) : State :=
  let s1 := { s with
    straps := straps
    phase := if straps.toNat < 30 then .loading false else .halt
    loadTimer := if straps.toNat < 30 then some 10 else none }
  let s2 := { s1 with tim := (announceTiming s1).tim }
  { s2 with alm := Alarm.follow s2 }

/-- A full reset (R206): every block at its full-reset values. The queue of commands is not the part's (log 1). -/
def fullReset (s : State) (straps : BitVec 5) : State :=
  beginStart { State.reset with pending := s.pending } straps

/-- The Decoder after a restart (R33): the expectations are kept. -/
def Decoder.restarted (d : Decoder) : Decoder :=
  { Decoder.reset with recvs := tab fun r => { RecvDec.reset with expect := (tget d.recvs r).expect } }

/-- The Exerciser after a restart (R129). -/
def Exerciser.restarted (e : Exerciser) : Exerciser :=
  { e with enable := false, step := none, stepTimer := none }

/-- The Frequency Unit after a restart (R162): K, the history, the seconds counter and the temperature code are kept;
HOLDOVER when the kept count is 4 or more and the straps give a number. t_entry is the sample of the settling. R162 gives
H and t_entry after a restart in HOLDOVER alone; in FREERUN both are none (DESIGN CHOICE, log 31). -/
def Frequency.restarted (f : Frequency) (straps : BitVec 5) : Frequency :=
  let hold := decide (4 ≤ f.history.length) && decide (straps.toNat < 30)
  { f with
    state := if hold then .holdover else .freerun
    lock := 0
    t := none
    h := if hold then some (meanK f.history) else none
    tEntry := none
    hoTimer := if hold then some 0 else none }

/-- A restart (R198, R206): what each block keeps is kept, the rest is as after a full reset. The line's own idle or
activity is not the part's to reset (log 5). -/
def restart (s : State) (straps : BitVec 5) : State :=
  beginStart { State.reset with
    pending := s.pending
    dec := s.dec.restarted
    cap := { s.cap with lost := false }
    line := { BayLine.reset with view := s.line.view }
    exr := s.exr.restarted
    freq := s.freq.restarted straps
    alm := { s.alm with logOvr := false } } straps

/-- FULL_RESET (R206). -/
def execFullReset (straps : BitVec 5) (s : State) : Host.Outcome State Fault Refusal :=
  .next (fullReset s straps)

/-! ## The load -/

/-- The work begun at the settling of the image (R203), before the changes are handed on. -/
def beginWork (s : State) (g : Config) (cfgdef : Bool) (temp : BitVec 9) : State :=
  let s1 := { s with
    config := g
    cfgdef := cfgdef
    phase := .readback
    loadTimer := none
    scan := { s.scan with siteSent := some (g.site, s.own) }
    line := { s.line with rx := if s.line.view = .active then .ignoring else .quiet }
    peers := { s.peers with silence := some 300 }
    freq := { s.freq with
      temp := temp
      tEntry := if s.freq.state = .holdover then some temp else s.freq.tEntry }
    tim := { s.tim with cands := tab fun c => CandRec.start (candUnused g c) } }
  (idx 16).foldl (fun s p => if s.used p then ask s p .query .driver else s) s1

/-- The settling of an image (R201–R203). -/
def settle (s : State) (i : RawImage) (failed : Bool) (temp : BitVec 9) : State :=
  conclude s (beginWork s (settleImage i s.own) (failed || imageReplaced i s.own) temp)

/-- A read failed (R200): the first is followed by the second, the second by the default image with CFGDEF. -/
def readFailed (s : State) (second : Bool) (temp : BitVec 9) : State :=
  if second then settle s RawImage.default true temp
  else { s with phase := .loading true, loadTimer := some 10 }

/-- CONFIG_READ_END (R200): a read ends, and is good when the CRC computed over the image equals the one held; `temp` is
the temperature sample of a settling (R158). With no read in progress nothing is taken. -/
def execConfigReadEnd (r : ConfigRead) (temp : BitVec 9) (s : State) : Host.Outcome State Fault Refusal :=
  match s.phase with
  | .loading second =>
    match r with
    | .completed image fields held =>
      if crcOf image = held then .next (settle s fields false temp) else .next (readFailed s second temp)
    | .noAnswer => .next (readFailed s second temp)
  | .halt | .readback | .listening | .running => .next s

/-- CONFIG_READ_TIMEOUT (R200): a read that has not completed 100 ms after it began fails. -/
def execConfigReadTimeout (temp : BitVec 9) (s : State) : Host.Outcome State Fault Refusal :=
  match s.phase with
  | .loading second => if ranOut s.loadTimer then .next (readFailed s second temp) else .next s
  | .halt | .readback | .listening | .running => .next s

/-! ## The end of the listen period -/

/-- The class a waiting record takes at the end of the listen period (R85). -/
def State.placedClass (s : State) (p : Port) : Class :=
  if s.sf p then .sigfail else if s.sd p then .sigdeg else .wtr

/-- A waiting record is placed (R85): its class, its first cause, and WTR with the full timer where neither SF nor SD
is active. An IDLE record takes its SF or SD as a new arrival when the changes are handed on (R75). -/
def placeRecord (s : State) (p : Port) : State :=
  let c := s.placedClass p
  match (s.prec p).claim with
  | some k => updRec s p fun r =>
      { r with
        state := if c = .wtr then .wtr else .switched
        wtr := if c = .wtr then some (6000 * s.config.wtr) else none
        claim := some { k with cls := c }
        firstCause := some (c, s.freq.seconds) }
  | none => s

/-- LISTEN_END (R205): the records are placed, the unheard test evaluated, the start-up evaluation made and trigger
pending set, when the listen timer has run out. -/
def execListenEnd (s : State) : Host.Outcome State Fault Refusal :=
  match s.phase with
  | .listening =>
    if ranOut s.listenTimer then
      let s1 := (idx 16).foldl placeRecord { s with phase := .running, listenTimer := none }
      .next (conclude s (requestTrigger (unheardEval s1)))
    else .next s
  | .halt | .loading _ | .readback | .running => .next s

end Sys2Proof.Machine
end

