-- ==== Sys2Proof/Machine/Operands.lean ====
section
/-! DEFINITION. The operand forms of craft requests (12.2) and the coding of the items of responses (R181). -/

namespace Sys2Proof.Machine

/-! ## Requests and their parameters -/

/-- The requests of the dictionary with their parameters in range (12.2). -/
inductive Request where
  | stat
  | view (n : Station)
  | portPart (p : Port) (second : Bool)
  | spar (sp : Spare)
  | timgStation
  | timgCand (c : Cand)
  | logr (n : Nat)
  | capr
  | lrn (r : Recv)
  | lrnAll
  | mask (p : Port) (on : Bool)
  | clrl
  | aco
  | force (p : Port) (target : Option Spare)
  | manual (p : Port) (target : Option Spare)
  | lockout (p : Port)
  | clear (p : Port)
  | slk (sp : Spare) (on : Bool)
  | trefForce (c : Cand)
  | trefClear
  | trefLockout (c : Cand) (on : Bool)
  | swpStart (sp : Spare) (mode : Mode) (count : Nat) (continuous : Bool) (first : Option Port)
  | swpStep
  | swpStop
  | pairClear (p : Port) (sp : Spare)
  | rsta
deriving DecidableEq, Repr

/-- A parameter byte below n. -/
def finOf (n : Nat) (b : Byte) : Option (Fin n) := if h : b.toNat < n then some ⟨b.toNat, h⟩ else none

/-- A parameter byte 0 or 1. -/
def boolOf (b : Byte) : Option Bool :=
  match b.toNat with
  | 0 => some false
  | 1 => some true
  | _ => none

/-- A candidate byte 1–7: OCA, OCB, LN0–LN3, BAY. -/
def candOf (b : Byte) : Option Cand := if b.toNat = 0 then none else finOf 7 (b - 1)

/-- A byte below n, or 255 for ANY or none. -/
def optOf (n : Nat) (b : Byte) : Option (Option (Fin n)) :=
  if b.toNat = 255 then some none else (finOf n b).map some

/-- The mode byte of SWP START. -/
def modeOf (b : Byte) : Option Mode := (boolOf b).map fun free => if free then .free else .paced

/-- A request of no parameter. -/
def parse0 (code : Nat) : Option Request :=
  match code with
  | 1 => some .stat
  | 7 => some .capr
  | 10 => some .clrl
  | 11 => some .aco
  | 17 => some .rsta
  | _ => none

/-- A request of one parameter byte. The n of LOGR is not judged (R181). -/
def parse1 (code : Nat) (a : Byte) : Option Request :=
  match code with
  | 2 => (finOf 32 a).map .view
  | 4 => (finOf 4 a).map .spar
  | 5 => if a.toNat = 0 then some .timgStation else (candOf a).map .timgCand
  | 6 => some (.logr a.toNat)
  | 8 => if a.toNat = 255 then some .lrnAll else (finOf 20 a).map .lrn
  | _ => none

/-- A request of two parameter bytes. The candidate byte of TREF CLEAR is not judged (R181). -/
def parse2 (code : Nat) (a b : Byte) : Option Request :=
  match code with
  | 3 => (finOf 16 a).bind fun p =>
      match b.toNat with
      | 1 => some (.portPart p false)
      | 2 => some (.portPart p true)
      | _ => none
  | 9 => (finOf 16 a).bind fun p => (boolOf b).map (.mask p)
  | 13 => (finOf 4 a).bind fun sp => (boolOf b).map (.slk sp)
  | 14 =>
    match a.toNat with
    | 1 => (candOf b).map .trefForce
    | 2 => some .trefClear
    | 3 => (candOf b).map fun c => .trefLockout c true
    | 4 => (candOf b).map fun c => .trefLockout c false
    | _ => none
  | 16 => (finOf 16 a).bind fun p => (finOf 4 b).map (.pairClear p)
  | _ => none

/-- A request of three parameter bytes: PSW. The target of LOCKOUT and CLEAR is not judged (R181). -/
def parse3 (code : Nat) (a b c : Byte) : Option Request :=
  if code = 12 then
    (finOf 16 a).bind fun p =>
      match b.toNat with
      | 1 => (optOf 4 c).map (.force p)
      | 2 => (optOf 4 c).map (.manual p)
      | 3 => some (.lockout p)
      | 4 => some (.clear p)
      | _ => none
  else none

/-- The parameters of SWP START in range. -/
def swpStartOf (sp m n k f : Byte) : Option Request :=
  (finOf 4 sp).bind fun sp => (modeOf m).bind fun mode => (finOf 17 n).bind fun n => (boolOf k).bind fun k =>
    (optOf 16 f).map fun first => .swpStart sp mode n.val k first

/-- A request of six parameter bytes: SWP. For STEP and STOP every byte after the action is not judged (R181). -/
def parse6 (code : Nat) (a sp m n k f : Byte) : Option Request :=
  if code = 15 then
    match a.toNat with
    | 1 => swpStartOf sp m n k f
    | 2 => some .swpStep
    | 3 => some .swpStop
    | _ => none
  else none

/-- The request a REQUEST payload carries; none where R181 refuses RANGE. -/
def parse : List Byte → Option Request
  | [code] => parse0 code.toNat
  | [code, a] => parse1 code.toNat a
  | [code, a, b] => parse2 code.toNat a b
  | [code, a, b, c] => parse3 code.toNat a b c
  | [code, a, sp, m, n, k, f] => parse6 code.toNat a sp m n k f
  | _ => none

/-! ## Items of responses (R181) -/

/-- A boolean state as a byte (log 10). -/
def bool1 (b : Bool) : List Byte := [byte b.toNat]

/-- One byte of a number. -/
def u8 (n : Nat) : List Byte := [byte n]

/-- Two bytes, most significant first. -/
def u16 (n : Nat) : List Byte := [byte (n / 256), byte n]

/-- Four bytes, most significant first. -/
def u32 (n : Nat) : List Byte := u16 (n / 65536) ++ u16 n

/-- A one-byte item, all ones when absent. -/
def opt8 (n : Option Nat) : List Byte := u8 (n.getD 255)

/-- A two-byte item, all ones when absent or of a stopped timer. -/
def opt16 (n : Option Nat) : List Byte := u16 (n.getD 65535)

/-- A four-byte item, all ones when absent. -/
def opt32 (n : Option Nat) : List Byte := u32 (n.getD 4294967295)

/-- A signed quantity in two's complement, −32768 for NONE. -/
def signed (x : Option Int) : List Byte := u16 (BitVec.ofInt 16 (x.getD (-32768))).toNat

/-- An identity: site, station, port. -/
def identBytes (i : Identity) : List Byte := [i.site, i.station.setWidth 8, i.port.setWidth 8]

/-- A decoded identity or a candidate word, 255 three times for NONE. -/
def identOrNone (i : Option Identity) : List Byte := (i.map identBytes).getD [255, 255, 255]

/-- An expectation, 254 three times for UNSET. -/
def identOrUnset (i : Option Identity) : List Byte := (i.map identBytes).getD [254, 254, 254]

/-- A set of flags with the first member the most significant bit of its bytes (log 10). -/
def setBytes (n : Nat) (f : Nat → Bool) : List Byte := bytesOfBits n ((List.range (8 * n)).map f)

/-- An alarm point as one byte (R181). -/
def Point.byte (p : Point) : Byte :=
  (BitVec.ofBool p.active ++ BitVec.ofBool p.latched ++ BitVec.ofBool p.masked ++ BitVec.ofBool p.suppressed ++
    BitVec.ofBool p.reported ++ BitVec.ofBool p.acked ++ BitVec.ofNat 2 p.severity.rank : BitVec 8)

/-- The bytes of points by their numbers. -/
def State.pointBytes (s : State) (is : List (Fin 158)) : List Byte := is.map fun i => (tget s.alm.points i).byte

/-- A port's selection: 0 WORKING, 1–4 S0–S3. -/
def selectionCode (sel : Option Spare) : Nat :=
  match sel with
  | none => 0
  | some sp => sp.val + 1

/-- A reported position: a selection, 5 UNKNOWN, 6 NONE. -/
def positionCode (p : Option Position) : Nat :=
  match p with
  | some .working => 0
  | some (.spare sp) => sp.val + 1
  | some .unknown => 5
  | none => 6

/-- A candidate: 1–7, 0 for none. -/
def candCode (c : Option Cand) : Nat :=
  match c with
  | none => 0
  | some c => c.val + 1

/-- A driver command's code (R181). -/
def Cmd.code : Cmd → Nat
  | .connect _ => 0
  | .restore => 1
  | .bridge _ => 2
  | .unbridge => 3
  | .query => 4

/-- The spare a command names, as the queue shows it. -/
def Cmd.spare : Cmd → Option Spare
  | .connect sp => some sp
  | .restore => none
  | .bridge sp => some sp
  | .unbridge => none
  | .query => none

/-- A mark's two bits (R181). -/
def Mark.bits : Mark → BitVec 2
  | .own => 0
  | .present => 1
  | .quarantined => 2
  | .demand => 3

/-- The place of a record's state in R67's list. -/
def PortState.code : PortState → Nat
  | .idle => 0
  | .holdoff => 1
  | .seeking => 2
  | .claiming => 3
  | .connecting => 4
  | .switched => 5
  | .wtr => 6
  | .releasing => 7

/-- The place of a candidate's state in the table of 9.2. -/
def CandState.code : CandState → Nat
  | .unused => 0
  | .failed => 1
  | .qualifying => 2
  | .qualified => 3
  | .lockedout => 4

/-- The place of a capture kind in R29's list. -/
def CaptureKind.code : CaptureKind → Nat
  | .isMatch => 0
  | .mismatch => 1
  | .unlearned => 2
  | .lost => 3

/-- The place of an exercise result in R128's list. -/
def ExResult.code : ExResult → Nat
  | .none => 0
  | .pass => 1
  | .fail => 2
  | .preempted => 3
  | .skipped => 4
  | .busy => 5

/-- The place of a transition in 11.5's list. -/
def Transition.code : Transition → Nat
  | .raised => 0
  | .cleared => 1
  | .changed => 2

/-- The place of a signal fail cause in R146's list. -/
def FailCause.code : FailCause → Nat
  | .noEdges => 0
  | .source => 1
  | .upstreamAbsent => 2
  | .upstreamQl7 => 3
  | .loop => 4
  | .traceFull => 5
  | .traceInvalid => 6
  | .isolated => 7

/-- The place of a retry's kind in R116's list. -/
def RetryKind.code : RetryKind → Nat
  | .restore => 0
  | .unbridge => 1

/-- The class of a request, 0 for NONE. -/
def classCode (c : Option Class) : Nat :=
  match c with
  | none => 0
  | some c => c.code

/-- A record's claim of a port as two bytes, all ones when absent. -/
def ownClaimBytes (p : Port) (c : Option (Spare × Class × Bool)) : List Byte :=
  match c with
  | some (sp, cls, settled) => claimBytes (byte p.val) sp cls settled 0
  | none => [255, 255]

/-- An actuation of the step in flight is in flight on the driver link. -/
def State.stepOnLink (s : State) : Bool :=
  match s.drv.inFlight with
  | some f => decide (f.port = s.exr.nextPort) && decide (f.entry.maker = .exerciser)
  | none => false

/-- The stage of a step as R181 codes it. -/
def State.stageCode (s : State) : Option Nat :=
  s.exr.step.map fun st =>
    match st.stage with
    | .window => 0
    | .bridge => if s.stepOnLink then 2 else 1
    | .unbridge => if s.stepOnLink then 4 else 3

end Sys2Proof.Machine
end

