-- ==== Sys2Proof/Machine/Responses.lean ====
section
/-! DEFINITION. The data of the responses that read the state (R182–R186): one definition for each dictionary entry, the
items in the order listed. -/

namespace Sys2Proof.Machine

/-! ## STAT (R182) -/

/-- The number of port records in a state. -/
def State.countState (s : State) (f : PortState → Bool) : Nat := (idx 16).countP fun p => f (s.prec p).state

/-- The summary: the four counts and the highest unacknowledged severity. -/
def Summary.bytes (a : Summary) : List Byte :=
  u8 a.critical ++ u8 a.major ++ u8 a.minor ++ u8 a.warning ++ u8 (severityCode a.highest)

/-- The sweep descriptor with the stage of the step in flight and the step timer in units of 100 ms (R128, R181). -/
def State.sweepBytes (s : State) : List Byte :=
  u8 s.exr.nextPort.val ++ u8 s.exr.remaining ++ u8 s.exr.spare.val ++ bool1 (decide (s.exr.mode = .free)) ++
    bool1 s.exr.continuous ++ bool1 s.exr.enable ++ bool1 s.exr.step.isSome ++ opt8 s.stageCode ++
    opt8 (s.exr.stepTimer.map (· / 10))

/-- The actuation queue's count, and the command and port in flight (R119). -/
def State.queueBytes (s : State) : List Byte :=
  u8 s.queued.length ++ opt8 (s.drv.inFlight.map (·.entry.cmd.code)) ++ opt8 (s.drv.inFlight.map (·.port.val))

/-- The data of STAT (R182). -/
def statData (s : State) : List Byte :=
  u32 s.freq.seconds.toNat ++
  u8 s.freq.state.code ++ u8 (candCode s.tim.selection) ++ u8 s.tim.ql ++
  [flagByte s.peers.isolated s.peers.unheard s.line.linefault.isSome false false false false false] ++
  u8 ((idx 32).countP fun n => (s.peer n).present) ++
  u8 s.line.responses.length ++
  u8 s.cap.queue.length ++ opt8 (s.cap.queue.head?.map (·.kind.code)) ++
  u8 (s.countState fun st => decide (st = .seeking)) ++
  u8 (s.countState fun st => decide (st = .switched ∨ st = .wtr)) ++
  setBytes 1 (fun i => (s.prot.spareLock.toList[i]?).getD false) ++
  s.queueBytes ++ s.sweepBytes ++ s.alm.summary.bytes ++
  u8 s.alm.log.length ++ s.pointBytes stationPoints

/-! ## VIEW (R183) -/

/-- The station class: 0 SHELF, 1 CRAFT (R52). -/
def stationClass (n : Station) : Nat := if n.val < 30 then 0 else 1

/-- The announce content held: 1 and the payload, or 0. -/
def contentBytes (c : Option Announce) : List Byte :=
  match c with
  | some a => 1 :: a.bytes
  | none => [0]

/-- The quarantine: its number of frozen claims, the claims and the remaining time; 255 and a stopped timer where there
is none. -/
def quarantineBytes (q : Option Quarantine) : List Byte :=
  match q with
  | some q => u8 q.claims.length ++ q.claims.flatMap AnnClaim.bytes ++ u16 q.timer
  | none => u8 255 ++ opt16 none

/-- The data of VIEW n (R183). -/
def viewData (s : State) (n : Station) : List Byte :=
  let r := s.peer n
  u8 (if r.present then 2 else if r.age.isSome then 1 else 0) ++ opt16 r.age ++ u8 (stationClass n) ++
    contentBytes r.content ++ quarantineBytes r.quarantine

/-! ## PORT (R184) -/

/-- The eight points of a port, in point number order. -/
def portPoints (p : Port) : List (Fin 158) := (idx 8).map fun k => portPoint k p

/-- The flags of a receiver's last good sample. -/
def sampleFlags (x : Sample) : Byte := flagByte x.lol x.tracer false false false false false false

/-- The three persistence counters of a receiver. -/
def RecvScan.counters (r : RecvScan) : List Byte := u8 r.los.count ++ u8 r.low.count ++ u16 r.deg.count

/-- PORT p part 1: the light and identity of the port, its points, and its last exercise result. -/
def portData1 (s : State) (p : Port) : List Byte :=
  let r := s.recv (portRecv p)
  let d := s.decv (portRecv p)
  let e := tget s.exr.results p
  [r.last.code, sampleFlags r.last] ++
  bool1 r.los.active ++ bool1 r.low.active ++ bool1 r.deg.active ++ bool1 (s.sf p) ++ bool1 (s.sd p) ++
  bool1 (s.timOf (portRecv p)) ++ bool1 (s.tlostOf (portRecv p)) ++ bool1 (tget s.dec.maint p) ++
  u8 r.errors ++ r.counters ++
  identOrNone d.ident ++ identOrUnset d.expect ++ identOrNone d.cand ++ u8 d.repeats ++ u8 d.absence ++
  s.pointBytes (portPoints p) ++
  u8 e.result.code ++ u32 e.seconds.toNat ++ bool1 e.failure

/-- The remaining time of a record's running timer: hold-off in units of 10 ms, WTR in units of 100 ms (R181). -/
def PortRec.timerLeft (r : PortRec) : Option Nat :=
  match r.holdoff with
  | some n => some n
  | none => r.wtr.map (· / 10)

/-- The commanded request with its target, 255 for ANY and for no command. R181 leaves open whether FORCED and MANUAL take
their class codes or their place in R67's list NONE, FORCED, MANUAL: the model sends the place (DESIGN CHOICE, log 10). -/
def Command.bytes : Command → List Byte
  | .none => u8 0 ++ u8 255
  | .forced t => u8 1 ++ opt8 (t.map (·.val))
  | .manual t => u8 2 ++ opt8 (t.map (·.val))

/-- The first cause: a class and a seconds counter value, all ones when absent. -/
def causeBytes (c : Option (Class × BitVec 32)) : List Byte :=
  match c with
  | some (cls, t) => u8 cls.code ++ u32 t.toNat
  | none => opt8 none ++ opt32 none

/-- The protection record of a port (R86). -/
def recordData (s : State) (p : Port) : List Byte :=
  let r := s.prec p
  u8 r.state.code ++ u8 (classCode r.request) ++ u8 (selectionCode r.selection) ++
  ownClaimBytes p (r.claim.map fun c => (c.spare, c.cls, c.settled)) ++
  ownClaimBytes p (r.transfer.bind fun t => r.claim.map fun c => (t.spare, c.cls, t.settled)) ++
  opt16 r.timerLeft ++ r.command.bytes ++ bool1 r.lockout ++ causeBytes r.firstCause ++
  setBytes 1 (fun i => (((s.dport p).pairs.toList[i]?).map (·.failed)).getD false) ++ bool1 (s.used p)

/-- A queued entry's command and spare, or none. -/
def entryBytes (e : Option Entry) : List Byte :=
  opt8 (e.map (·.cmd.code)) ++ opt8 (e.bind fun e => e.cmd.spare.map (·.val))

/-- Whether the actuation in flight is the port's, and its elapsed time; R181 gives no unit for it, and the model counts it
in steps of 10 ms in one byte (DESIGN CHOICE, log 10). -/
def flightBytes (s : State) (p : Port) : List Byte :=
  match s.drv.inFlight with
  | some f => if f.port = p then bool1 true ++ u8 (5 - f.allowance) else bool1 false ++ opt8 none
  | none => bool1 false ++ opt8 none

/-- A retry's kind and its remaining time in whole seconds, or none. -/
def retryBytes (r : Option Retry) : List Byte :=
  match r with
  | some r => u8 r.kind.code ++ opt8 (r.timer.map (· / 100))
  | none => opt8 none ++ opt8 none

/-- PORT p part 2: the record of R86, then the Selector Driver's items of R119. A waiting need is not in the queue (R109)
and is not shown. -/
def portData2 (s : State) (p : Port) : List Byte :=
  let d := s.dport p
  recordData s p ++ u8 (positionCode d.recvPos) ++ u8 (positionCode d.bridgePos) ++
  entryBytes d.queue ++ flightBytes s p ++
  ((idx 4).flatMap fun sp => u8 (s.pair p sp).count ++ opt8 ((s.pair p sp).timer.map (· / 100))) ++
  retryBytes d.retry ++ bool1 d.mark

/-! ## SPAR (R185) -/

/-- An entry of the view with its mark: a station number and a claim. -/
def ViewEntry.bytes (sp : Spare) (e : ViewEntry) : List Byte :=
  u8 e.station ++ claimBytes (byte e.port) sp e.cls e.settled e.mark.bits

/-- The data of SPAR s (R185); TIM and TLOST of receiver 16 + s (R24, R32) stand with its other conditions (log 10). -/
def sparData (s : State) (sp : Spare) : List Byte :=
  let r := s.recv (spareRecv sp)
  let d := s.decv (spareRecv sp)
  bool1 (s.locallyUsable sp) ++ bool1 (s.byLight sp) ++ bool1 (s.matched sp) ++
  bool1 (!tget s.prot.spareLock sp) ++
  setBytes 2 (fun i => if h : i < 16 then (s.pair ⟨i, h⟩ sp).failed else false) ++
  [r.last.code, sampleFlags r.last] ++
  bool1 r.los.active ++ bool1 r.low.active ++ bool1 r.deg.active ++
  bool1 (s.timOf (spareRecv sp)) ++ bool1 (s.tlostOf (spareRecv sp)) ++ r.counters ++ u8 r.errors ++
  u8 (tget s.scan.masks sp) ++
  identOrNone d.ident ++ identOrUnset d.expect ++ identOrNone d.cand ++ u8 d.repeats ++ u8 d.absence ++
  bool1 (s.matched sp) ++
  s.pointBytes ((idx 3).map fun k => sparePoint k sp) ++
  u8 (s.viewOf sp).length ++ ((s.rankedView sp).take 8).flatMap (ViewEntry.bytes sp)

/-! ## TIMG (R186) -/

/-- H, t_entry and the holdover timer, or NONE outside HOLDOVER (R161). -/
def holdoverBytes (f : Frequency) : List Byte :=
  if f.state = .holdover then
    signed f.h ++ opt16 (f.tEntry.map (·.toNat)) ++ opt32 f.hoTimer
  else signed none ++ opt16 none ++ opt32 none

/-- The number of HOEXPIRED's point (R163). -/
def hoexpiredPoint : Fin 158 := 156

/-- TIMG 0: the station's timing. -/
def timgStationData (s : State) : List Byte :=
  u8 s.freq.state.code ++ u8 s.freq.lock ++ u8 (candCode s.tim.selection) ++ u8 s.tim.ql ++
  u8 s.tim.trace.length ++ s.tim.trace ++ bool1 s.tim.squelch ++
  signed (some s.freq.k) ++ signed s.freq.t ++ u8 s.freq.history.length ++ holdoverBytes s.freq ++
  u16 s.freq.temp.toNat ++ s.pointBytes [hoexpiredPoint] ++
  (idx 7).flatMap fun c => u8 (s.cand c).state.code ++ s.pointBytes [reffailPoint c]

/-- TIMG c: one candidate. The good-gate count of a candidate not QUALIFYING is sent as 0 (DESIGN CHOICE, log 10). -/
def timgCandData (s : State) (c : Cand) : List Byte :=
  let r := s.cand c
  u8 r.state.code ++ u8 r.good ++ bool1 r.sigFail ++
  opt8 (if r.sigFail then (s.failCauses c).head?.map (·.code) else none) ++
  opt8 (s.qlOf c) ++ u8 (tget s.config.prio c) ++ opt8 ((s.nominee c).map (·.val)) ++
  opt8 ((s.source c).map (·.val)) ++ bool1 (decide (s.tim.force = some c)) ++
  bool1 (decide (r.state = .lockedout)) ++ signed (r.d.map (·.1)) ++
  bool1 ((r.d.map (·.2)).getD false) ++ signed r.f ++ bool1 r.hit ++ s.pointBytes [reffailPoint c]

/-! ## Removed records (R187, R188) -/

/-- A record of the alarm log: seconds, point number, transition, effective severity in the announce code. -/
def LogRec.bytes (r : LogRec) : List Byte :=
  u32 r.seconds.toNat ++ u8 r.point.val ++ u8 r.transition.code ++ u8 (severityCode (some r.severity))

/-- A capture record: receiver, previous identity, new identity, seconds, kind. -/
def CaptureRec.bytes (r : CaptureRec) : List Byte :=
  u8 r.recv.val ++ identOrNone r.old ++ identOrNone r.new ++ u32 r.seconds.toNat ++ u8 r.kind.code

end Sys2Proof.Machine
end

