-- ==== Sys2Proof/Machine/Requests.lean ====
section
/-! DEFINITION. The Request Handler (chapter 12): the checks of R179, what each request refuses, changes and answers, and
the meanings of the request rows, each the arrival of its REQUEST frame. -/

namespace Sys2Proof.Machine

/-! ## Refusals of the dictionary entries -/

/-- The results of a response (3.2). -/
inductive Result where
  | done
  | busy
  | range
  | state
  | notcraft
deriving DecidableEq, Repr

/-- The result byte (3.2). -/
def Result.code : Result → Nat
  | .done => 0
  | .busy => 1
  | .range => 2
  | .state => 3
  | .notcraft => 4

/-- A receiver's decoded identity may be learned (R26): not NONE, and on a spare receiver of a port field 16–19. -/
def State.learnable (s : State) (r : Recv) : Bool :=
  match (s.decv r).ident with
  | none => false
  | some i => decide (r.val < 16) || (decide (16 ≤ i.port.toNat) && decide (i.port.toNat ≤ 19))

/-- A named target outside the port's spare mask (R70). -/
def State.offMap (s : State) (p : Port) (t : Option Spare) : Bool :=
  match t with
  | some sp => !s.inMap p sp
  | none => false

/-- A FORCED command stands. -/
def State.isForced (s : State) (p : Port) : Bool :=
  match (s.prec p).command with
  | .forced _ => true
  | _ => false

/-- The checks of a request's own dictionary entry (R26, R193, R195, R196): the refusal, or none. Where both refusals of
SWP STEP apply, a step still in flight with Enable clear or the mode FREE, STATE is answered, which R122 and R196 name
first (DESIGN CHOICE, log 33). -/
def State.refusal (s : State) (r : Request) : Option Result :=
  match r with
  | .lrn rc => if s.learnable rc then none else some .state
  | .force p t =>
    if !s.used p then some .state
    else if s.offMap p t then some .range
    else if (s.prec p).lockout then some .state else none
  | .manual p t =>
    if !s.used p then some .state
    else if s.offMap p t then some .range
    else if (s.prec p).lockout then some .state
    else if s.sf p || s.sd p || s.isForced p then some .state else none
  | .lockout p => if s.used p then none else some .state
  | .clear p => if s.used p then none else some .state
  | .trefForce c =>
    if (s.cand c).state = .unused ∨ (s.cand c).state = .lockedout then some .state else none
  | .trefLockout c on =>
    if on && (decide ((s.cand c).state = .unused) || decide (s.tim.force = some c)) then some .state else none
  | .swpStart .. => if s.exr.enable || s.exr.step.isSome then some .busy else none
  | .swpStep =>
    if !s.exr.enable ∨ s.exr.mode = .free then some .state
    else if s.exr.step.isSome then some .busy else none
  | _ => none

/-! ## Effects -/

/-- LRN (R26): the expectation becomes the decoded identity. -/
def learn (s : State) (r : Recv) : State :=
  if s.learnable r then
    { s with dec := { s.dec with recvs := tset s.dec.recvs r { s.decv r with expect := (s.decv r).ident } } }
  else s

/-- LRN ALL (R27): each receiver in turn. -/
def learnAll (s : State) : State := (idx 20).foldl learn s

/-- MASK (R28). -/
def setMaint (s : State) (p : Port) (on : Bool) : State :=
  { s with dec := { s.dec with maint := tset s.dec.maint p on } }

/-- CLRL (R172): the latch of every point whose condition is inactive is cleared. -/
def clearLatches (s : State) : State :=
  { s with alm := { s.alm with points := tab fun i =>
      let x := tget s.alm.points i
      { x with latched := x.latched && s.cond (pointOf i).1 (pointOf i).2 } } }

/-- ACO (R171): every point reported at the arrival is acknowledged. -/
def acknowledge (s : State) : State :=
  { s with alm := { s.alm with points := tab fun i =>
      let x := tget s.alm.points i
      if (s.pointNow i).reported then { x with acked := true } else x } }

/-- The commanded request of a port is written (R70). -/
def setCommand (s : State) (p : Port) (c : Command) : State := updRec s p fun r => { r with command := c }

/-- SLK ON and OFF (R97, R98): the set and the LOCKOUT claim with it; a change requests a triggered announce (R73). -/
def lockSpare (s : State) (sp : Spare) (on : Bool) : State :=
  triggerIf (decide (tget s.prot.spareLock sp ≠ on))
    { s with prot := { s.prot with spareLock := tset s.prot.spareLock sp on } }

/-- TREF LOCKOUT ON and OFF (R141). -/
def lockCand (s : State) (c : Cand) (on : Bool) : State :=
  let r := s.cand c
  if on then
    if r.state = .lockedout then s else s.setCand c { r with state := .lockedout, good := 0 }
  else if r.state = .lockedout then
    s.setCand c { r with state := if r.sigFail then .failed else .qualifying, good := 0 }
  else s

/-- SWP START (R120): the descriptor; in FREE mode the first step time is this arrival (R122). -/
def sweepStart (s : State) (sp : Spare) (mode : Mode) (count : Nat) (continuous : Bool) (first : Option Port) :
    State :=
  let s1 := { s with exr := { s.exr with
    spare := sp
    mode := mode
    continuous := continuous
    remaining := if count = 0 then 16 else count
    nextPort := first.getD s.exr.nextPort
    enable := true
    stepTimer := none } }
  if mode = .free then protectionPart s1 (stepTime s1) else s1

/-- SWP STOP (R121): Enable is cleared and the step timer stopped; a step whose light has not moved is abandoned, its
claim withdrawn, without result or advance. The timer is stopped also where Enable is clear and no step is in flight
(DEDUCED, log 23). -/
def sweepStop (s : State) : State :=
  let s1 := { s with exr := { s.exr with enable := false, stepTimer := none } }
  match s1.exr.step with
  | none => s1
  | some st =>
    if s1.stepUnmoved st then
      let s2 := removeEntry s1 s1.exr.nextPort .exerciser
      protectionPart s1 (triggerIf st.claim.isSome { s2 with exr := { s2.exr with step := none } })
    else s1

/-- PAIR CLEAR (R115, R117, R197). -/
def forgivePair (s : State) (p : Port) (sp : Spare) : State :=
  clearMark (s.setPair p sp Pair.reset) p

/-- The number of records LOGR n removes (R176, R187): n clamped to 1–8, or all the log holds. -/
def State.logTaken (s : State) (n : Nat) : Nat := min (max 1 (min 8 n)) s.alm.log.length

/-- LOGR (R176): the oldest records are removed; a removal ends LOGOVR's condition. -/
def readLog (s : State) (n : Nat) : State :=
  let k := s.logTaken n
  { s with alm := { s.alm with
    log := s.alm.log.drop k
    logOvr := if k = 0 then s.alm.logOvr else false } }

/-- CAPR (R31): the oldest capture record is removed, which ends CAPLOST's condition. -/
def readCapture (s : State) : State :=
  match s.cap.queue with
  | [] => s
  | _ :: rest => { s with cap := ⟨rest, false⟩ }

/-- What an executed request changes, before the changes are handed on (R180). -/
def requestEffect (s : State) (r : Request) : State :=
  match r with
  | .stat => s
  | .view _ => s
  | .portPart _ _ => s
  | .spar _ => s
  | .timgStation => s
  | .timgCand _ => s
  | .logr n => readLog s n
  | .capr => readCapture s
  | .lrn rc => learn s rc
  | .lrnAll => learnAll s
  | .mask p on => setMaint s p on
  | .clrl => clearLatches s
  | .aco => acknowledge s
  | .force p t => setCommand s p (.forced t)
  | .manual p t => setCommand s p (.manual t)
  | .lockout p => updRec s p fun x => { x with command := .none, lockout := true }
  | .clear p => updRec s p fun x => { x with command := .none, lockout := false }
  | .slk sp on => lockSpare s sp on
  | .trefForce c => { s with tim := { s.tim with force := some c } }
  | .trefClear => { s with tim := { s.tim with force := none } }
  | .trefLockout c on => lockCand s c on
  | .swpStart sp mode count continuous first => sweepStart s sp mode count continuous first
  | .swpStep => protectionPart s (stepTime s)
  | .swpStop => sweepStop s
  | .pairClear p sp => forgivePair s p sp
  | .rsta => { s with restartPending := true }

/-! ## Response data -/

/-- The outcome of SWP STEP (R196): 1 begun, 2 hold, 3 SKIPPED, 4 BUSY. -/
def StepOutcome.code : StepOutcome → Nat
  | .begun => 1
  | .hold => 2
  | .skipped => 3
  | .busy => 4

/-- The number of receivers whose expectation LRN ALL changes (R27). -/
def State.learnCount (s : State) : Nat :=
  (idx 20).countP fun r => s.learnable r && decide ((s.decv r).ident ≠ (s.decv r).expect)

/-- The data of a DONE: what reads the state is read after the request (`t`); what a request removed, or a step time led
to, is taken from the state it found (`s`) (R180). -/
def requestData (s t : State) (r : Request) : List Byte :=
  match r with
  | .stat => statData t
  | .view n => viewData t n
  | .portPart p second => if second then portData2 t p else portData1 t p
  | .spar sp => sparData t sp
  | .timgStation => timgStationData t
  | .timgCand c => timgCandData t c
  | .logr n => u8 (s.logTaken n) ++ (s.alm.log.take (s.logTaken n)).flatMap LogRec.bytes
  | .capr => u8 (min 1 s.cap.queue.length) ++ (s.cap.queue.take 1).flatMap CaptureRec.bytes
  | .lrnAll => u8 s.learnCount
  | .trefForce _ => u8 (candCode t.tim.selection) ++ u8 t.freq.state.code
  | .trefClear => u8 (candCode t.tim.selection) ++ u8 t.freq.state.code
  | .trefLockout _ _ => u8 (candCode t.tim.selection) ++ u8 t.freq.state.code
  | .swpStep => u8 s.judgeStep.code ++ u8 s.exr.nextPort.val
  | .lrn _ => []
  | .mask _ _ => []
  | .clrl => []
  | .aco => []
  | .force _ _ => []
  | .manual _ _ => []
  | .lockout _ => []
  | .clear _ => []
  | .slk _ _ => []
  | .swpStart .. => []
  | .swpStop => []
  | .pairClear _ _ => []
  | .rsta => []

/-! ## Taking a request (R179, R180) -/

/-- A response joins the tail of the response queue (R48): the request code, the result, the data. -/
def respond (s : State) (src : Station) (code : Byte) (r : Result) (data : List Byte) : State :=
  { s with line := { s.line with
    responses := s.line.responses ++ [⟨src, code :: byte r.code :: data⟩] } }

/-- A craft terminal's number (R179). -/
def isCraft (src : Station) : Bool := decide (30 ≤ src.val)

/-- A request to ALL (R179): executed without a response when it is ACO or CLRL from a craft terminal and the start-up
period is over; otherwise discarded. `s0` is the state before the frame arrived, `s` after its sender's refresh. -/
def takeForAll (s0 s : State) (src : Station) (payload : List Byte) : State :=
  if isCraft src && !s.startUp then
    match parse payload with
    | some .aco => conclude s0 (acknowledge s)
    | some .clrl => conclude s0 (clearLatches s)
    | _ => conclude s0 s
  else conclude s0 s

/-- A request in the dictionary (R179's last checks, R180): refused by its entry, or executed and answered DONE. A LOGR
reads the log before the records of this same event are appended at its end (DESIGN CHOICE, log 32). -/
def takeValid (s0 s : State) (src : Station) (code : Byte) (r : Request) : State :=
  match s.refusal r with
  | some x => respond (conclude s0 s) src code x []
  | none =>
    let t := conclude s0 (requestEffect s r)
    respond t src code .done (requestData s t r)

/-- The Request Handler takes a REQUEST addressed to the station or to ALL: the checks of R179 in their order. -/
def takeRequest (s0 s : State) (src : Station) (all : Bool) (payload : List Byte) : State :=
  let code := payload.headD 0
  if s.restartPending then conclude s0 s
  else if all then takeForAll s0 s src payload
  else if 2 ≤ s.line.responses.length then conclude s0 s
  else if !isCraft src then respond (conclude s0 s) src code .notcraft []
  else if s.startUp then respond (conclude s0 s) src code .state []
  else match parse payload with
    | none => respond (conclude s0 s) src code .range []
    | some r => takeValid s0 s src code r

/-- A REQUEST that has passed R37 is handed on (R39): the refresh of its sender, then, when it is addressed to the
station or to ALL, the Request Handler. `s0` is the state before the frame arrived, `s` at its arrival. -/
def handRequest (s0 s : State) (src : Station) (tgt : BitVec 6) (payload : List Byte) : State :=
  let s1 := refresh s src
  if tgt.toNat = 63 then takeRequest s0 (handOn s1) src true payload
  else if tgt.toNat = s.own.val then takeRequest s0 (handOn s1) src false payload
  else conclude s0 s1

/-- The line falls idle (R34): the view is IDLE and the receiver waits for the next activity. -/
def lineQuiet (s : State) : State := { s with line := { s.line with view := .idle, rx := .quiet } }

/-- The receiver assembles frames: from the settling of the image (R49), and not while it takes nothing more from the
line until the next idle (R35). -/
def State.hearing (s : State) : Bool := s.settled && decide (s.line.rx ≠ .ignoring)

/-- The arrival of a REQUEST frame of a source, a target and a payload, at the declaration of idle (R35, R37, R39). -/
def requestArrives (s : State) (src : Station) (tgt : BitVec 6) (payload : List Byte) : State :=
  if s.hearing && targetOk tgt && decide (src ≠ s.own) && !payload.isEmpty then
    handRequest s (lineQuiet s) src tgt payload
  else lineQuiet s

/-! ## The request rows -/

/-- STAT (R182). -/
def execStat (src : Station) (tgt : BitVec 6) (s : State) : Host.Outcome State Fault Refusal :=
  .next (requestArrives s src tgt [1])

/-- VIEW n (R183). -/
def execView (src : Station) (tgt : BitVec 6) (n : Byte) (s : State) : Host.Outcome State Fault Refusal :=
  .next (requestArrives s src tgt [2, n])

/-- PORT p part (R184). -/
def execPort (src : Station) (tgt : BitVec 6) (p part : Byte) (s : State) : Host.Outcome State Fault Refusal :=
  .next (requestArrives s src tgt [3, p, part])

/-- SPAR s (R185). -/
def execSpar (src : Station) (tgt : BitVec 6) (sp : Byte) (s : State) : Host.Outcome State Fault Refusal :=
  .next (requestArrives s src tgt [4, sp])

/-- TIMG c (R186). -/
def execTimg (src : Station) (tgt : BitVec 6) (c : Byte) (s : State) : Host.Outcome State Fault Refusal :=
  .next (requestArrives s src tgt [5, c])

/-- LOGR n (R176, R187). -/
def execLogr (src : Station) (tgt : BitVec 6) (n : Byte) (s : State) : Host.Outcome State Fault Refusal :=
  .next (requestArrives s src tgt [6, n])

/-- CAPR (R31, R188). -/
def execCapr (src : Station) (tgt : BitVec 6) (s : State) : Host.Outcome State Fault Refusal :=
  .next (requestArrives s src tgt [7])

/-- LRN r (R26, R189). -/
def execLrn (src : Station) (tgt : BitVec 6) (r : Byte) (s : State) : Host.Outcome State Fault Refusal :=
  .next (requestArrives s src tgt [8, r])

/-- LRN ALL (R27, R189). -/
def execLrnAll (src : Station) (tgt : BitVec 6) (s : State) : Host.Outcome State Fault Refusal :=
  .next (requestArrives s src tgt [8, 255])

/-- MASK p ON (R28, R190). -/
def execMaskOn (src : Station) (tgt : BitVec 6) (p : Byte) (s : State) : Host.Outcome State Fault Refusal :=
  .next (requestArrives s src tgt [9, p, 1])

/-- MASK p OFF (R28, R190). -/
def execMaskOff (src : Station) (tgt : BitVec 6) (p : Byte) (s : State) : Host.Outcome State Fault Refusal :=
  .next (requestArrives s src tgt [9, p, 0])

/-- CLRL (R172, R191). -/
def execClrl (src : Station) (tgt : BitVec 6) (s : State) : Host.Outcome State Fault Refusal :=
  .next (requestArrives s src tgt [10])

/-- ACO (R171, R192). -/
def execAco (src : Station) (tgt : BitVec 6) (s : State) : Host.Outcome State Fault Refusal :=
  .next (requestArrives s src tgt [11])

/-- PSW p FORCE (R70, R193). -/
def execPswForce (src : Station) (tgt : BitVec 6) (p target : Byte) (s : State) :
    Host.Outcome State Fault Refusal :=
  .next (requestArrives s src tgt [12, p, 1, target])

/-- PSW p MANUAL (R70, R193). -/
def execPswManual (src : Station) (tgt : BitVec 6) (p target : Byte) (s : State) :
    Host.Outcome State Fault Refusal :=
  .next (requestArrives s src tgt [12, p, 2, target])

/-- PSW p LOCKOUT (R71, R193); its target byte is not judged (R181). -/
def execPswLockout (src : Station) (tgt : BitVec 6) (p : Byte) (s : State) : Host.Outcome State Fault Refusal :=
  .next (requestArrives s src tgt [12, p, 3, 255])

/-- PSW p CLEAR (R70, R193); its target byte is not judged (R181). -/
def execPswClear (src : Station) (tgt : BitVec 6) (p : Byte) (s : State) : Host.Outcome State Fault Refusal :=
  .next (requestArrives s src tgt [12, p, 4, 255])

/-- SLK s ON (R97, R194). -/
def execSlkOn (src : Station) (tgt : BitVec 6) (sp : Byte) (s : State) : Host.Outcome State Fault Refusal :=
  .next (requestArrives s src tgt [13, sp, 1])

/-- SLK s OFF (R98, R194). -/
def execSlkOff (src : Station) (tgt : BitVec 6) (sp : Byte) (s : State) : Host.Outcome State Fault Refusal :=
  .next (requestArrives s src tgt [13, sp, 0])

/-- TREF FORCE c (R140, R195). -/
def execTrefForce (src : Station) (tgt : BitVec 6) (c : Byte) (s : State) : Host.Outcome State Fault Refusal :=
  .next (requestArrives s src tgt [14, 1, c])

/-- TREF CLEAR (R140, R195); its candidate byte is not judged (R181). -/
def execTrefClear (src : Station) (tgt : BitVec 6) (s : State) : Host.Outcome State Fault Refusal :=
  .next (requestArrives s src tgt [14, 2, 0])

/-- TREF LOCKOUT c ON (R141, R195). -/
def execTrefLockoutOn (src : Station) (tgt : BitVec 6) (c : Byte) (s : State) : Host.Outcome State Fault Refusal :=
  .next (requestArrives s src tgt [14, 3, c])

/-- TREF LOCKOUT c OFF (R141, R195). -/
def execTrefLockoutOff (src : Station) (tgt : BitVec 6) (c : Byte) (s : State) :
    Host.Outcome State Fault Refusal :=
  .next (requestArrives s src tgt [14, 4, c])

/-- SWP START (R120, R196). -/
def execSwpStart (src : Station) (tgt : BitVec 6) (sp mode count continuous first : Byte) (s : State) :
    Host.Outcome State Fault Refusal :=
  .next (requestArrives s src tgt [15, 1, sp, mode, count, continuous, first])

/-- SWP STEP (R122, R196); the bytes after the action are not judged (R181). -/
def execSwpStep (src : Station) (tgt : BitVec 6) (s : State) : Host.Outcome State Fault Refusal :=
  .next (requestArrives s src tgt [15, 2, 0, 0, 0, 0, 0])

/-- SWP STOP (R121, R196); the bytes after the action are not judged (R181). -/
def execSwpStop (src : Station) (tgt : BitVec 6) (s : State) : Host.Outcome State Fault Refusal :=
  .next (requestArrives s src tgt [15, 3, 0, 0, 0, 0, 0])

/-- PAIR p s CLEAR (R115, R197). -/
def execPairClear (src : Station) (tgt : BitVec 6) (p sp : Byte) (s : State) : Host.Outcome State Fault Refusal :=
  .next (requestArrives s src tgt [16, p, sp])

/-- RSTA (R198). -/
def execRsta (src : Station) (tgt : BitVec 6) (s : State) : Host.Outcome State Fault Refusal :=
  .next (requestArrives s src tgt [17])

end Sys2Proof.Machine
end

