-- ==== Sys2Proof/Machine/Line.lean ====
section
/-! DEFINITION. The Bay Line Controller (chapter 3): activity and idle, the arrival of a frame, the arbiter and deferral,
attempts, collisions and the announce timers; the meanings of their rows. -/

namespace Sys2Proof.Machine

/-! ## Activity, idle and arrival -/

/-- LINE_ACTIVITY (R34, R35): the view is ACTIVE, and from the settling on the receiver assembles a possible frame. -/
def execLineActivity (s : State) : Host.Outcome State Fault Refusal :=
  .next { s with line := { s.line with
    view := .active
    rx := if s.hearing then .assembling else s.line.rx } }

/-- LINE_IDLE (R34, R35): the view is IDLE; what was assembled is no frame, or a truncated or overrun one, and is
discarded. -/
def execLineIdle (s : State) : Host.Outcome State Fault Refusal := .next (lineQuiet s)

/-- A frame that has passed R37 is handed on by its kind (R39); a malformed ANNOUNCE is discarded (R38). -/
def handFrame (s0 s : State) (f : Frame) : State :=
  let src : Station := ⟨f.source.toNat, f.source.isLt⟩
  if f.kind = 1 then
    match announceOf f.source f.payload with
    | some a => conclude s0 (takeAnnounce s src a)
    | none => s
  else if f.kind = 3 then handRequest s0 s src f.target f.payload
  else conclude s0 (refresh s src)

/-- FRAME_ARRIVAL (R35, R37–R39): the line is idle after the activity that carried these bits, and what they carry is
judged; a discarded frame has no further effect. -/
def execFrameArrival (bits : List Bool) (s : State) : Host.Outcome State Fault Refusal :=
  if s.hearing then
    match frameOf bits with
    | some f => if f.accepted s.own then .next (handFrame s (lineQuiet s) f) else .next (lineQuiet s)
    | none => .next (lineQuiet s)
  else .next (lineQuiet s)

/-! ## The transmitter -/

/-- The arbiter's choice among waiting work (R40). -/
def State.choice (s : State) : Option FrameClass :=
  if s.line.trigger && s.line.spacing.isNone then some .triggered
  else if !s.line.responses.isEmpty then some .response
  else if s.line.routineDue then some .routine
  else none

/-- The work of the transmitter: the frame in hand, by its own class, or the choice (R41). -/
def State.work (s : State) : Option FrameClass :=
  match s.line.inHand with
  | some h => some h.cls
  | none => s.choice

/-- The deferral after idle in bit times (R41). -/
def deferral (own : Station) (c : FrameClass) : Nat :=
  match c with
  | .triggered => 2 * own.val
  | .response => 2 * own.val
  | .routine => 80 + 2 * own.val

/-- The frame of an attempt (R42, R47): an announce is built from the state of this start, a response is sent as the
Request Handler built it. -/
def State.attemptFrame (s : State) (c : FrameClass) : Option Frame :=
  match c with
  | .triggered => some s.announceFrame
  | .routine => some s.announceFrame
  | .response => s.line.responses.head?.map s.responseFrame

/-- An attempt starts (R42): the work is in hand, its collision count 0 at a first attempt; an announce clears trigger
pending (R45), and its first attempt clears routine due and stops the routine timer (R46). The station's own sending is
activity on the line (R34). -/
def startAttempt (s : State) (c : FrameClass) (f : Frame) : State :=
  let first := s.line.inHand.isNone
  let announce := decide (c ≠ .response)
  { s with line := { s.line with
    inHand := some ⟨c, f⟩
    sending := true
    view := .active
    rx := .assembling
    collisions := if first then 0 else s.line.collisions
    trigger := s.line.trigger && !announce
    routineDue := s.line.routineDue && !(first && announce)
    routine := if first && announce then none else s.line.routine } }

/-- ATTEMPT_START (R41, R42): with work, on an idle line, once the deferral has passed since the declaration of idle. -/
def execAttemptStart (elapsed : Nat) (s : State) : Host.Outcome State Fault Refusal :=
  match s.work with
  | none => .next s
  | some c =>
    if s.settled && !s.line.sending && decide (s.line.view = .idle) && decide (deferral s.own c ≤ elapsed) then
      match s.attemptFrame c with
      | some f => .next (startAttempt s c f)
      | none => .next s
    else .next s

/-- The frame in hand leaves it, sent or dropped (R42, R43): the announce timers start (R45, R46), or the response leaves
its queue (R48). -/
def leaveHand (l : BayLine) (c : FrameClass) : BayLine :=
  let l := { l with inHand := none, sending := false, collisions := 0 }
  match c with
  | .triggered => { l with spacing := some 4, routine := some 50 }
  | .routine => { l with routine := some 50 }
  | .response => { l with responses := l.responses.drop 1 }

/-- The response in hand is the RSTA response of a pending restart (R198): it leaves the queue at this event. -/
def State.restartsNow (s : State) (c : FrameClass) : Bool :=
  s.restartPending && decide (c = .response) &&
    decide (s.line.responses.head?.map (·.payload) = some [17, 0])

/-- FRAME_SENT (R42): the frame in hand is sent; after the RSTA response the station restarts, reading the straps. -/
def execFrameSent (straps : BitVec 5) (s : State) : Host.Outcome State Fault Refusal :=
  match s.line.inHand with
  | some h =>
    if s.line.sending then
      let s1 := { s with line := leaveHand s.line h.cls }
      if s.restartsNow h.cls then .next (restart s1 straps) else .next s1
    else .next s
  | none => .next s

/-- The collision that brings the count to 8 drops the frame and raises LINEFAULT for 10 s (R43, R44). -/
def dropFrame (s : State) (c : FrameClass) : State :=
  conclude s { s with line := { leaveHand s.line c with linefault := some tenSeconds } }

/-- COLLISION (R42, R43): the transmitter stops; the frame is kept for a retry, or dropped at the eighth. -/
def execCollision (straps : BitVec 5) (s : State) : Host.Outcome State Fault Refusal :=
  match s.line.inHand with
  | some h =>
    if s.line.sending then
      if s.line.collisions + 1 < 8 then
        .next { s with line := { s.line with sending := false, collisions := s.line.collisions + 1 } }
      else if s.restartsNow h.cls then .next (restart (dropFrame s h.cls) straps)
      else .next (dropFrame s h.cls)
    else .next s
  | none => .next s

/-! ## Timers -/

/-- SPACING_TIMER_EXPIRY (R45): a pending trigger may be chosen again. -/
def execSpacingTimerExpiry (s : State) : Host.Outcome State Fault Refusal :=
  if ranOut s.line.spacing then .next { s with line := { s.line with spacing := none } } else .next s

/-- ROUTINE_TIMER_EXPIRY (R46): routine due is set. A stopped timer does not expire. -/
def execRoutineTimerExpiry (s : State) : Host.Outcome State Fault Refusal :=
  if ranOut s.line.routine then
    .next { s with line := { s.line with routine := none, routineDue := true } }
  else .next s

/-- LINEFAULT_TIMER_EXPIRY (R44): LINEFAULT becomes inactive, 10 s after the last drop. -/
def execLinefaultTimerExpiry (s : State) : Host.Outcome State Fault Refusal :=
  if ranOut s.line.linefault then .next (conclude s { s with line := { s.line with linefault := none } })
  else .next s

end Sys2Proof.Machine
end

