-- ==== Sys2Proof/Machine/Protection.lean ====
section
/-! DEFINITION. The timers of protection and the events of the driver link and of the Exerciser's timer (chapters 5 to 8):
the meanings of HOLDOFF_EXPIRY, CLAIM_WINDOW_EXPIRY, WTR_EXPIRY, DRIVER_ANSWER, ALLOWANCE_EXPIRY, RECOVERY_TIMER_EXPIRY,
RETRY_TIMER_EXPIRY and STEP_TIMER_EXPIRY. -/

namespace Sys2Proof.Machine

/-! ## Protection timers -/

/-- HOLDOFF_EXPIRY (R76): to SEEKING if SF or SD of the port is active, to IDLE otherwise. -/
def execHoldoffExpiry (p : Port) (s : State) : Host.Outcome State Fault Refusal :=
  if ranOut (s.prec p).holdoff then
    .next (conclude s (updRec s p fun r =>
      { r with holdoff := none, state := if s.sf p || s.sd p then .seeking else .idle }))
  else .next s

/-- A record's claim window expires (R78, R81, R93): the PENDING claim or transfer claim settles and its CONNECT is
queued. -/
def settlePort (s : State) (p : Port) : State :=
  match (s.prec p).transfer, (s.prec p).claim with
  | some t, _ =>
    ask (requestTrigger (updRec s p fun r => { r with transfer := some { t with settled := true }, window := none }))
      p (.connect t.spare) .record
  | none, some k =>
    if (s.prec p).state = .claiming then
      ask (requestTrigger (updRec s p fun r =>
          { r with claim := some { k with settled := true }, window := none, state := .connecting }))
        p (.connect k.spare) .record
    else s
  | none, none => s

/-- The Exerciser's claim window expires (R124): its claim settles and its BRIDGE is queued. -/
def settleStep (s : State) (st : Step) : State :=
  ask (requestTrigger (markStep s { st with claim := some true, window := none, stage := .bridge }))
    s.exr.nextPort (.bridge s.exr.spare) .exerciser

/-- CLAIM_WINDOW_EXPIRY (R93): of a window that has run out only; it stops when its claim is withdrawn, and a claim made
afterwards runs a window of its own. -/
def execClaimWindowExpiry (w : WindowOwner) (s : State) : Host.Outcome State Fault Refusal :=
  match w with
  | .port p => if ranOut (s.prec p).window then .next (conclude s (protectionPart s (settlePort s p))) else .next s
  | .exerciser =>
    match s.exr.step with
    | some st => if ranOut st.window then .next (conclude s (protectionPart s (settleStep s st))) else .next s
    | none => .next s

/-- WTR_EXPIRY (R82): to RELEASING, with RESTORE queued. -/
def execWtrExpiry (p : Port) (s : State) : Host.Outcome State Fault Refusal :=
  if ranOut (s.prec p).wtr then .next (conclude s (protectionPart s (enterReleasing s p))) else .next s

/-! ## The driver link -/

/-- DRIVER_ANSWER (R108): an answer that names the command and port in flight ends the actuation; any other is
discarded. -/
def execDriverAnswer (a : DriverAnswer) (s : State) : Host.Outcome State Fault Refusal :=
  match s.drv.inFlight with
  | some f =>
    if a.cmd = f.entry.cmd.kind ∧ a.port = f.port then .next (conclude s (actuationEnd s f (some a.reply)))
    else .next s
  | none => .next s

/-- ALLOWANCE_EXPIRY (R108): the actuation in flight, its allowance run out, fails without an answer. -/
def execAllowanceExpiry (s : State) : Host.Outcome State Fault Refusal :=
  match s.drv.inFlight with
  | some f => if f.allowance = 0 then .next (conclude s (actuationEnd s f none)) else .next s
  | none => .next s

/-- RECOVERY_TIMER_EXPIRY (R115): the pair is no longer failed, and its attempt count rises. -/
def execRecoveryTimerExpiry (p : Port) (sp : Spare) (s : State) : Host.Outcome State Fault Refusal :=
  if ranOut (s.pair p sp).timer then
    .next (conclude s (s.setPair p sp ⟨false, min 255 ((s.pair p sp).count + 1), none⟩))
  else .next s

/-- A CONNECT or RESTORE of the port's record is queued or held as its waiting need (R116). -/
def State.recordStands (s : State) (p : Port) : Bool :=
  match s.standingEntry p with
  | some e => decide (e.maker = .record)
  | none => false

/-- The command of a retry. -/
def RetryKind.cmd : RetryKind → Cmd
  | .restore => .restore
  | .unbridge => .unbridge

/-- RETRY_TIMER_EXPIRY (R116): the Driver asks for the command of the retry as a need of its own, unless a CONNECT or
RESTORE of the record stands: then the timer starts again. -/
def execRetryTimerExpiry (p : Port) (s : State) : Host.Outcome State Fault Refusal :=
  match (s.dport p).retry with
  | some r =>
    if ranOut r.timer then
      if s.recordStands p then .next (conclude s (restartRetry s p))
      else
        .next (conclude s (protectionPart s
          (ask (s.setDport p { s.dport p with retry := some ⟨r.kind, none⟩ }) p r.kind.cmd .driver)))
    else .next s
  | none => .next s

/-! ## The Exerciser's timer -/

/-- STEP_TIMER_EXPIRY (R122): a step time, while Enable is set and no step is in flight. -/
def execStepTimerExpiry (s : State) : Host.Outcome State Fault Refusal :=
  if ranOut s.exr.stepTimer then
    let s1 := { s with exr := { s.exr with stepTimer := none } }
    if s.exr.enable && s.exr.step.isNone then .next (conclude s (protectionPart s1 (stepTime s1))) else .next s1
  else .next s

end Sys2Proof.Machine
end

