-- ==== Sys2Proof/Machine/TimingEvents.lean ====
section
/-! DEFINITION. The events of the clock inputs, the gates and the seconds counter (chapters 9 and 10): the meanings of
EDGE_LOSS, EDGE_RETURN, GATE_START, GATE_COMPLETION, GATE_OVERRUN, SECONDS_TICK and HOLDOVER_LIMIT_EXPIRY. -/

namespace Sys2Proof.Machine

/-- The candidate takes events: from the settling of the image on, and not while unused (9.1, R147). -/
def State.takesEvents (s : State) (c : Cand) : Bool := s.settled && decide ((s.cand c).state ≠ .unused)

/-- EDGE_LOSS (R132, R133): no edge for 375 µs at OCA, OCB or the bay timing input. A line candidate has no edge test
(R135). -/
def execEdgeLoss (c : Cand) (s : State) : Host.Outcome State Fault Refusal :=
  if s.takesEvents c && (lineOf c).isNone then
    .next (conclude s (s.setCand c { s.cand c with noEdges := true }))
  else .next s

/-- The edge that ends a FAILED candidate's last cause starts its fresh gate (R134). -/
def edgeBack (s : State) (c : Cand) : State :=
  let s1 := s.setCand c { s.cand c with noEdges := false }
  if (s.cand c).state = .failed ∧ s1.fails c = false then
    s1.setCand c { (s1.cand c).judged false with gate := true }
  else s1

/-- EDGE_RETURN (R132, R133): the first edge after an edge loss. -/
def execEdgeReturn (c : Cand) (s : State) : Host.Outcome State Fault Refusal :=
  if s.takesEvents c && (s.cand c).noEdges then .next (conclude s (edgeBack s c)) else .next s

/-- A fresh gate may start (R135): QUALIFYING, QUALIFIED, or LOCKEDOUT with no signal fail, and none running. -/
def CandRec.wantsGate (r : CandRec) : Bool :=
  !r.gate && match r.state with
    | .qualifying => true
    | .qualified => true
    | .lockedout => !r.sigFail
    | .unused => false
    | .failed => false

/-- GATE_START (R135): at the next edge of its source a candidate without a gate starts one. -/
def execGateStart (c : Cand) (s : State) : Host.Outcome State Fault Refusal :=
  if s.settled && (s.cand c).wantsGate then .next (s.setCand c { s.cand c with gate := true }) else .next s

/-- The parts of a gate completion in their order (R136): d and F (R149, R150) with the hit mark cleared (R156), the
judgement, the selection, and a correction event if the candidate is then selected. The next gate starts at the same
edge. -/
def completeGate (s : State) (c : Cand) (count : Nat) : State :=
  let r := s.cand c
  let m := measure count
  let r1 := { r with d := some m, f := some (filter r.f m.1), hit := false }
  let s1 := reselect (s.setCand c (r1.completed s.config m.1 m.2))
  if s1.tim.selection = some c then correct s1 r.hit else s1

/-- GATE_COMPLETION (R136): of a running gate, with the count C of the local oscillator. -/
def execGateCompletion (c : Cand) (count : Nat) (s : State) : Host.Outcome State Fault Refusal :=
  if s.settled && (s.cand c).gate then .next (conclude s (completeGate s c count)) else .next s

/-- A candidate at a gate overrun (R134, R135): the gate is discarded; QUALIFYING or QUALIFIED becomes QUALIFYING with
count 0. -/
def CandRec.overrun (r : CandRec) : CandRec :=
  { r with
    gate := false
    state := if r.state = .qualified then .qualifying else r.state
    good := 0 }

/-- GATE_OVERRUN (R135): a running gate has not completed 1.5 s after its start. -/
def execGateOverrun (c : Cand) (s : State) : Host.Outcome State Fault Refusal :=
  if s.settled && (s.cand c).gate then .next (conclude s (s.setCand c (s.cand c).overrun)) else .next s

/-- The most the holdover timer holds: 255 h (R159). -/
def hoTimerMax : Nat := 918000

/-- Steps 1 to 3 of a seconds tick (R152): the counter, the temperature sample, and in HOLDOVER the holdover timer. -/
def tickSeconds (s : State) (temp : BitVec 9) : State :=
  { s with freq := { s.freq with
    seconds := s.freq.seconds + 1
    temp := temp
    hoTimer := if s.freq.state = .holdover then s.freq.hoTimer.map fun n => min hoTimerMax (n + 1)
      else s.freq.hoTimer } }

/-- SECONDS_TICK (R152): before the settling of the image and in CONFIG-HALT step 1 alone (R162); a correction event in
HOLDOVER or FREERUN. -/
def execSecondsTick (temp : BitVec 9) (s : State) : Host.Outcome State Fault Refusal :=
  if s.settled then
    let s1 := tickSeconds s temp
    if s.freq.state = .holdover ∨ s.freq.state = .freerun then .next (conclude s (correct s1 false))
    else .next (conclude s s1)
  else .next { s with freq := { s.freq with seconds := s.freq.seconds + 1 } }

/-- HOLDOVER_LIMIT_EXPIRY (R159): in HOLDOVER with a limit, the timer stands at the limit or past it, since the
command is the tick that brings it there (DESIGN CHOICE, log 34). -/
def execHoldoverLimitExpiry (s : State) : Host.Outcome State Fault Refusal :=
  if s.settled && decide (s.freq.state = .holdover) && decide (s.config.hoLimit ≠ 0) then
    .next (conclude s { s with freq := { s.freq with
      hoTimer := some (max (s.freq.hoTimer.getD 0) (s.config.hoLimit * 3600)) } })
  else .next s

end Sys2Proof.Machine
end

