-- ==== Sys2Proof/Machine/Dispatch.lean ====
section
/-! DEFINITION. exec: one arm for each command, each one call of its meaning. -/

namespace Sys2Proof.Machine

/-- A command's effect on everything but the queue. -/
def exec (i : Instr) (s : State) : Host.Outcome State Fault Refusal :=
  match i with
  | .fullReset straps => Sys2Proof.Machine.execFullReset straps s
  | .configReadEnd read temp => Sys2Proof.Machine.execConfigReadEnd read temp s
  | .configReadTimeout temp => Sys2Proof.Machine.execConfigReadTimeout temp s
  | .slotCompletion => Sys2Proof.Machine.execSlotCompletion s
  | .sampleAnswer a => Sys2Proof.Machine.execSampleAnswer a s
  | .lineActivity => Sys2Proof.Machine.execLineActivity s
  | .lineIdle => Sys2Proof.Machine.execLineIdle s
  | .frameArrival bits => Sys2Proof.Machine.execFrameArrival bits s
  | .attemptStart elapsed => Sys2Proof.Machine.execAttemptStart elapsed s
  | .collision straps => Sys2Proof.Machine.execCollision straps s
  | .frameSent straps => Sys2Proof.Machine.execFrameSent straps s
  | .spacingTimerExpiry => Sys2Proof.Machine.execSpacingTimerExpiry s
  | .routineTimerExpiry => Sys2Proof.Machine.execRoutineTimerExpiry s
  | .linefaultTimerExpiry => Sys2Proof.Machine.execLinefaultTimerExpiry s
  | .peerExpiry n => Sys2Proof.Machine.execPeerExpiry n s
  | .quarantineEnd n => Sys2Proof.Machine.execQuarantineEnd n s
  | .silenceTimerExpiry => Sys2Proof.Machine.execSilenceTimerExpiry s
  | .unheardTimerExpiry => Sys2Proof.Machine.execUnheardTimerExpiry s
  | .holdoffExpiry p => Sys2Proof.Machine.execHoldoffExpiry p s
  | .claimWindowExpiry w => Sys2Proof.Machine.execClaimWindowExpiry w s
  | .wtrExpiry p => Sys2Proof.Machine.execWtrExpiry p s
  | .driverAnswer a => Sys2Proof.Machine.execDriverAnswer a s
  | .allowanceExpiry => Sys2Proof.Machine.execAllowanceExpiry s
  | .recoveryTimerExpiry p sp => Sys2Proof.Machine.execRecoveryTimerExpiry p sp s
  | .retryTimerExpiry p => Sys2Proof.Machine.execRetryTimerExpiry p s
  | .stepTimerExpiry => Sys2Proof.Machine.execStepTimerExpiry s
  | .edgeLoss c => Sys2Proof.Machine.execEdgeLoss c s
  | .edgeReturn c => Sys2Proof.Machine.execEdgeReturn c s
  | .gateCompletion c count => Sys2Proof.Machine.execGateCompletion c count s
  | .gateOverrun c => Sys2Proof.Machine.execGateOverrun c s
  | .secondsTick temp => Sys2Proof.Machine.execSecondsTick temp s
  | .holdoverLimitExpiry => Sys2Proof.Machine.execHoldoverLimitExpiry s
  | .listenEnd => Sys2Proof.Machine.execListenEnd s
  | .stat src tgt => Sys2Proof.Machine.execStat src tgt s
  | .view src tgt n => Sys2Proof.Machine.execView src tgt n s
  | .port src tgt p part => Sys2Proof.Machine.execPort src tgt p part s
  | .spar src tgt sp => Sys2Proof.Machine.execSpar src tgt sp s
  | .timg src tgt c => Sys2Proof.Machine.execTimg src tgt c s
  | .logr src tgt n => Sys2Proof.Machine.execLogr src tgt n s
  | .capr src tgt => Sys2Proof.Machine.execCapr src tgt s
  | .lrn src tgt r => Sys2Proof.Machine.execLrn src tgt r s
  | .lrnAll src tgt => Sys2Proof.Machine.execLrnAll src tgt s
  | .maskOn src tgt p => Sys2Proof.Machine.execMaskOn src tgt p s
  | .maskOff src tgt p => Sys2Proof.Machine.execMaskOff src tgt p s
  | .clrl src tgt => Sys2Proof.Machine.execClrl src tgt s
  | .aco src tgt => Sys2Proof.Machine.execAco src tgt s
  | .pswForce src tgt p target => Sys2Proof.Machine.execPswForce src tgt p target s
  | .pswManual src tgt p target => Sys2Proof.Machine.execPswManual src tgt p target s
  | .pswLockout src tgt p => Sys2Proof.Machine.execPswLockout src tgt p s
  | .pswClear src tgt p => Sys2Proof.Machine.execPswClear src tgt p s
  | .slkOn src tgt sp => Sys2Proof.Machine.execSlkOn src tgt sp s
  | .slkOff src tgt sp => Sys2Proof.Machine.execSlkOff src tgt sp s
  | .trefForce src tgt c => Sys2Proof.Machine.execTrefForce src tgt c s
  | .trefClear src tgt => Sys2Proof.Machine.execTrefClear src tgt s
  | .trefLockoutOn src tgt c => Sys2Proof.Machine.execTrefLockoutOn src tgt c s
  | .trefLockoutOff src tgt c => Sys2Proof.Machine.execTrefLockoutOff src tgt c s
  | .swpStart src tgt sp mode count continuous first => Sys2Proof.Machine.execSwpStart src tgt sp mode count continuous first s
  | .swpStep src tgt => Sys2Proof.Machine.execSwpStep src tgt s
  | .swpStop src tgt => Sys2Proof.Machine.execSwpStop src tgt s
  | .pairClear src tgt p sp => Sys2Proof.Machine.execPairClear src tgt p sp s
  | .rsta src tgt => Sys2Proof.Machine.execRsta src tgt s
  | .gateStart c => Sys2Proof.Machine.execGateStart c s

end Sys2Proof.Machine
end

