-- ==== Sys2Proof/Machine/Tick.lean ====
section
/-! DEFINITION. The passing of 10 ms with no command waiting (log 13): every running timer falls, every age rises. No
timer expires by itself: each expiry is a command. -/

namespace Sys2Proof.Machine

/-- A peer record 10 ms later: the age up to 655.35 s (4.1), the quarantine's time down (R56). -/
def PeerRec.tick (r : PeerRec) : PeerRec :=
  { r with
    age := r.age.map fun n => min 65535 (n + 1)
    quarantine := r.quarantine.map fun q => { q with timer := q.timer - 1 } }

/-- A protection record 10 ms later. -/
def PortRec.tick (r : PortRec) : PortRec :=
  { r with window := tickTimer r.window, holdoff := tickTimer r.holdoff, wtr := tickTimer r.wtr }

/-- The Selector Driver's state of a port 10 ms later. -/
def PortDrv.tick (d : PortDrv) : PortDrv :=
  { d with
    pairs := tab fun sp => { tget d.pairs sp with timer := tickTimer (tget d.pairs sp).timer }
    retry := d.retry.map fun r => { r with timer := tickTimer r.timer } }

/-- The part 10 ms later, with nothing commanded. -/
def tick (s : State) : State :=
  { s with
    loadTimer := tickTimer s.loadTimer
    listenTimer := tickTimer s.listenTimer
    line := { s.line with
      spacing := tickTimer s.line.spacing
      routine := tickTimer s.line.routine
      linefault := tickTimer s.line.linefault }
    peers := { s.peers with
      recs := tab fun n => (tget s.peers.recs n).tick
      silence := tickTimer s.peers.silence
      unheardTimer := tickTimer s.peers.unheardTimer }
    prot := { s.prot with recs := tab fun p => (tget s.prot.recs p).tick }
    drv := { ports := tab fun p => (tget s.drv.ports p).tick
             inFlight := s.drv.inFlight.map fun f => { f with allowance := f.allowance - 1 } }
    exr := { s.exr with
      step := s.exr.step.map fun st => { st with window := tickTimer st.window }
      stepTimer := tickTimer s.exr.stepTimer } }

end Sys2Proof.Machine
end

