-- ==== Sys2Proof/Safety.lean ====
section
/-! DEFINITION. What counts as a sound state and a sound step: the frames the statements use, the invariants, and the
quiet states in which a command's effect stands alone. -/

namespace Sys2Proof.Machine

/-! ## Frames -/

/-- What the handing on of changes at an event's end leaves as it is (R10, R90, R113, R144, R165): everything but the
Protection Engine, the Selector Driver, the Exerciser, the selection and the candidates' states with what is announced
of them, the timing state with its lock count, H, t_entry and holdover timer, the alarm unit, the trigger with the class
of a frame in hand, and the phase at readback's end. -/
structure EventFrame (s t : State) : Prop where
  pending : t.pending = s.pending
  straps : t.straps = s.straps
  loadTimer : t.loadTimer = s.loadTimer
  config : t.config = s.config
  cfgdef : t.cfgdef = s.cfgdef
  restartPending : t.restartPending = s.restartPending
  scan : t.scan = s.scan
  dec : t.dec = s.dec
  cap : t.cap = s.cap
  peers : t.peers = s.peers
  line : { t.line with trigger := s.line.trigger, inHand := s.line.inHand } = s.line
  inHand : t.line.inHand.map (·.frame) = s.line.inHand.map (·.frame)
  phase : t.phase = s.phase ∨ s.phase = .readback ∧ t.phase = .listening
  spareLock : t.prot.spareLock = s.prot.spareLock
  force : t.tim.force = s.tim.force
  seconds : t.freq.seconds = s.freq.seconds
  temp : t.freq.temp = s.freq.temp
  k : t.freq.k = s.freq.k
  target : t.freq.t = s.freq.t
  history : t.freq.history = s.freq.history

/-- The peer view after a valid frame of a station that carries no announce (R53, R60): the record present with age 0,
the silence timer restarted, isolation ended; all else as it was. -/
def State.heardFrom (s : State) (n : Station) : PeerView :=
  { s.peers with
    recs := tset s.peers.recs n { s.peer n with present := true, age := some 0 }
    isolated := false
    silence := some 300 }

/-- The bay line right after the idle at which a frame arrived, with these responses waiting (R34, R48). -/
def State.lineAfter (s : State) (responses : List Response) : BayLine :=
  { s.line with view := .idle, rx := .quiet, responses := responses }

/-- The state with these responses waiting. -/
def State.withResponses (s : State) (rs : List Response) : State :=
  { s with line := { s.line with responses := rs } }

/-! ## Requests -/

/-- The source, the target and the payload of a request row's frame: the request code, then the parameter bytes (12.2). -/
def requestOf : Instr → Option (Station × BitVec 6 × List Byte)
  | .stat src tgt => some (src, tgt, [1])
  | .view src tgt n => some (src, tgt, [2, n])
  | .port src tgt p part => some (src, tgt, [3, p, part])
  | .spar src tgt sp => some (src, tgt, [4, sp])
  | .timg src tgt c => some (src, tgt, [5, c])
  | .logr src tgt n => some (src, tgt, [6, n])
  | .capr src tgt => some (src, tgt, [7])
  | .lrn src tgt r => some (src, tgt, [8, r])
  | .lrnAll src tgt => some (src, tgt, [8, 255])
  | .maskOn src tgt p => some (src, tgt, [9, p, 1])
  | .maskOff src tgt p => some (src, tgt, [9, p, 0])
  | .clrl src tgt => some (src, tgt, [10])
  | .aco src tgt => some (src, tgt, [11])
  | .pswForce src tgt p x => some (src, tgt, [12, p, 1, x])
  | .pswManual src tgt p x => some (src, tgt, [12, p, 2, x])
  | .pswLockout src tgt p => some (src, tgt, [12, p, 3, 255])
  | .pswClear src tgt p => some (src, tgt, [12, p, 4, 255])
  | .slkOn src tgt sp => some (src, tgt, [13, sp, 1])
  | .slkOff src tgt sp => some (src, tgt, [13, sp, 0])
  | .trefForce src tgt c => some (src, tgt, [14, 1, c])
  | .trefClear src tgt => some (src, tgt, [14, 2, 0])
  | .trefLockoutOn src tgt c => some (src, tgt, [14, 3, c])
  | .trefLockoutOff src tgt c => some (src, tgt, [14, 4, c])
  | .swpStart src tgt sp m n k f => some (src, tgt, [15, 1, sp, m, n, k, f])
  | .swpStep src tgt => some (src, tgt, [15, 2, 0, 0, 0, 0, 0])
  | .swpStop src tgt => some (src, tgt, [15, 3, 0, 0, 0, 0, 0])
  | .pairClear src tgt p sp => some (src, tgt, [16, p, sp])
  | .rsta src tgt => some (src, tgt, [17])
  | .fullReset _ | .configReadEnd _ _ | .configReadTimeout _ | .slotCompletion | .sampleAnswer _ => none
  | .lineActivity | .lineIdle | .frameArrival _ | .attemptStart _ | .collision _ | .frameSent _ => none
  | .spacingTimerExpiry | .routineTimerExpiry | .linefaultTimerExpiry | .peerExpiry _ | .quarantineEnd _ => none
  | .silenceTimerExpiry | .unheardTimerExpiry | .holdoffExpiry _ | .claimWindowExpiry _ | .wtrExpiry _ => none
  | .driverAnswer _ | .allowanceExpiry | .recoveryTimerExpiry _ _ | .retryTimerExpiry _ | .stepTimerExpiry => none
  | .edgeLoss _ | .edgeReturn _ | .gateCompletion _ _ | .gateOverrun _ | .secondsTick _ => none
  | .holdoverLimitExpiry | .listenEnd | .gateStart _ => none

/-- The target byte of PSW FORCE and MANUAL: a spare, or 255 for ANY (12.2). -/
def spareByte (t : Option Spare) : Byte := byte ((t.map (·.val)).getD 255)

/-- The station takes a request of this source and target as far as its dictionary entry (R37, R179): it runs, its
receiver assembles, no restart is pending, the frame is addressed to it by a craft terminal other than itself, and the
response queue has room. -/
structure Takes (s : State) (src : Station) (tgt : BitVec 6) : Prop where
  running : s.phase = .running
  rx : s.line.rx ≠ .ignoring
  free : s.restartPending = false
  room : s.line.responses.length < 2
  craft : 30 ≤ src.val
  other : src ≠ s.own
  target : tgt.toNat = s.own.val

/-- A request that is refused or discarded changes nothing in any block (R179), beyond what the refresh of its sender hands
on: no command, lockout, selection, pair or candidate's lockout moves, no log record is removed, no point newly
acknowledged, no latch cleared, and with no step in flight the Exerciser is as before. Selections are exempt in readback,
whose end writes them (R85). The frame of the event covers the rest. -/
structure NothingAsked (s t : State) : Prop where
  commands : ∀ p, (t.prec p).command = (s.prec p).command ∧ (t.prec p).lockout = (s.prec p).lockout
  selections : s.phase ≠ .readback → ∀ p, (t.prec p).selection = (s.prec p).selection
  pairs : ∀ p sp, t.pair p sp = s.pair p sp
  lockedOut : ∀ c, (t.cand c).state = .lockedout ↔ (s.cand c).state = .lockedout
  log : ∃ new, t.alm.log = s.alm.log ++ new
  acked : ∀ i, (tget t.alm.points i).acked = true → (tget s.alm.points i).acked = true
  latched : s.phase = .running → ∀ i, (tget s.alm.points i).latched = true → (tget t.alm.points i).latched = true
  sweep : s.exr.step = none → t.exr = s.exr

/-- What a request leaves behind besides its own effect `e` (R53, R179, R180): the sender refreshed, the line idle, one
response of this payload at the queue's tail, and the frame of an event around `e`. -/
def Answered (s e t : State) (src : Station) (payload : List Byte) : Prop :=
  EventFrame { e with
    peers := s.heardFrom src, line := s.lineAfter (s.line.responses ++ [⟨src, payload⟩]) } t

/-! ## Invariants -/

/-- The capacities and ranges the manual states for queues, counters and K (2.2, R3, R30, R42, R48, R154–R156, R175). -/
structure Bounded (s : State) : Prop where
  log : s.alm.log.length ≤ 32
  capture : s.cap.queue.length ≤ 4
  responses : s.line.responses.length ≤ 2
  collisions : s.line.collisions ≤ 7
  history : s.freq.history.length ≤ 16
  k : -32767 ≤ s.freq.k ∧ s.freq.k ≤ 32767
  errors : ∀ r, (s.recv r).errors ≤ 255
  repeats : ∀ r, (s.decv r).repeats ≤ 8
  absence : ∀ r, (s.decv r).absence ≤ 100

/-- The selection is a QUALIFIED candidate or none, the timing state is LOCKED or ACQUIRING exactly while a candidate is
selected (R139, R151), and from the settling on every used candidate's signal fail is as its causes give it (R132, R133). -/
structure TimingSound (s : State) : Prop where
  qualified : ∀ c, s.tim.selection = some c → (s.cand c).state = .qualified
  state : s.tim.selection.isSome = true ↔ s.freq.state = .locked ∨ s.freq.state = .acquiring
  judged : s.settled = true → ∀ c, (s.cand c).state = .unused ∨ (s.cand c).sigFail = s.fails c

/-- Squelch, announced QL and trace list are, from the settling on, those of the timing state and the selection (R142,
R143). -/
def AnnounceSound (s : State) : Prop :=
  s.settled = true → s.tim.squelch = decide (s.config.squelchMin < s.qlBefore) ∧
    s.tim.ql = (if s.tim.squelch then 7 else s.qlBefore) ∧ s.tim.trace = s.traceNow

/-- The bay alarm lines are pulled exactly for the reported, unacknowledged points, and the summary is formed from the
points in normal running and is all zeros and none before the start-up evaluation (R173, R174, R177). -/
structure AlarmSound (s : State) : Prop where
  crit : s.alm.crit = true ↔
    ∃ i, (tget s.alm.points i).reported = true ∧ (tget s.alm.points i).acked = false ∧
      (tget s.alm.points i).severity = .critical
  maj : s.alm.maj = true ↔
    ∃ i, (tget s.alm.points i).reported = true ∧ (tget s.alm.points i).acked = false ∧
      (tget s.alm.points i).severity = .major
  min : s.alm.min = true ↔
    ∃ i, (tget s.alm.points i).reported = true ∧ (tget s.alm.points i).acked = false ∧
      (tget s.alm.points i).severity = .minor
  summary : s.alm.summary = if s.phase = .running then summaryOf s.alm.points else Summary.zero

/-- The points whose active condition suppresses a point, by point number (R168's table with the numbers of R163). -/
def suppressorsOf (i : Nat) : List Nat :=
  if i < 16 then []
  else if i < 32 then [i - 16]
  else if i < 48 then [i - 32, i - 16]
  else if i < 64 then [i - 48, i - 32]
  else if i < 80 then [i - 64, i - 48]
  else if i < 132 then []
  else if i < 136 then [i - 4]
  else if i < 140 then [i - 8, i - 4]
  else if i = 142 ∨ i = 143 then [141]
  else if 147 ≤ i ∧ i ≤ 153 then [154, 155]
  else []

/-- The points PEERLOST, CAPLOST and LOGOVR, latched at every raise (R164). -/
def alwaysLatched (i : Fin 158) : Bool := i.val == 143 || i.val == 145 || i.val == 146

/-- Every field of every point is what R166 to R170 give it for the conditions as they stand: active is its condition;
masked its kind mask, or its port's maintenance mask or unused mark, with no kind mask on CFGDEF in CONFIG-HALT (R173);
suppressed by the active points of R168's table; its severity the base, one step lower while its port is on a spare. In
normal running it is reported while active or latched and neither masked nor suppressed, and latched if active and
latchable. Before the start-up evaluation nothing is latched or reported, but for CFGDEF in CONFIG-HALT (R177). Only a
reported point is acknowledged. -/
structure PointsSound (s : State) : Prop where
  active : ∀ i, (tget s.alm.points i).active = s.cond (pointOf i).1 (pointOf i).2
  portMasked : ∀ (k : Fin 8) (p : Port), (tget s.alm.points (portPoint k p)).masked =
    (tget s.config.kindMask (portKind k).place || tget s.dec.maint p || !s.used p)
  masked : ∀ i : Fin 158, 128 ≤ i.val → (tget s.alm.points i).masked =
    (tget s.config.kindMask (pointOf i).1.place && !(decide (s.phase = .halt) && i.val == 140))
  suppressed : ∀ i : Fin 158, (tget s.alm.points i).suppressed = true ↔
    ∃ j : Fin 158, j.val ∈ suppressorsOf i.val ∧ (tget s.alm.points j).active = true
  portSeverity : ∀ (k : Fin 8) (p : Port), (tget s.alm.points (portPoint k p)).severity =
    if (s.prec p).selection = none then (portKind k).base else (portKind k).base.lower
  severity : ∀ i : Fin 158, 128 ≤ i.val → (tget s.alm.points i).severity = (pointOf i).1.base
  reported : s.phase = .running → ∀ i, (tget s.alm.points i).reported =
    (((tget s.alm.points i).active || (tget s.alm.points i).latched) && !(tget s.alm.points i).masked &&
      !(tget s.alm.points i).suppressed)
  latched : s.phase = .running → ∀ i, (tget s.alm.points i).active = true →
    (tget s.config.latch (pointOf i).1.place = true ∨ alwaysLatched i = true) → (tget s.alm.points i).latched = true
  quiet : s.phase ≠ .running → ∀ i : Fin 158, (tget s.alm.points i).latched = false ∧
    (tget s.alm.points i).reported = (decide (s.phase = .halt) && i.val == 140)
  acked : ∀ i, (tget s.alm.points i).acked = true → (tget s.alm.points i).reported = true

/-- A demand stands on a spare only for a choosing record whose first open spare it is and which another own claim holds;
every record that holds it is giving it back, or has its CONNECT in flight (R91, R92). -/
structure DemandsSound (s : State) : Prop where
  wanted : ∀ sp p, tget s.prot.demands sp = some p →
    s.choosing p = true ∧ s.firstOpen p = some sp ∧ s.heldByOther p sp = true
  yields : ∀ sp p q, tget s.prot.demands sp = some p → s.recordEntries sp q ≠ [] →
    (s.prec q).state = .releasing ∨ s.connectInFlight q = true

/-- A record's state agrees with its claim and timers as the table of 5.4 lays down. -/
structure PortRec.Sound (r : PortRec) : Prop where
  claim : r.claim.isSome = true ↔
    r.state = .claiming ∨ r.state = .connecting ∨ r.state = .switched ∨ r.state = .wtr ∨ r.state = .releasing
  holdoff : r.holdoff.isSome = true → r.state = .holdoff
  wtr : r.wtr.isSome = true → r.state = .wtr
  transfer : r.transfer.isSome = true → r.state = .switched ∨ r.state = .releasing

/-- Every record agrees with its state; it is IDLE before the end of readback, and IDLE or waiting in SWITCHED without a
transfer claim in the listen period (R85). -/
structure RecordsSound (s : State) : Prop where
  each : ∀ p, (s.prec p).Sound
  before : s.phase ≠ .listening → s.phase ≠ .running → ∀ p, (s.prec p).state = .idle
  listening : s.phase = .listening →
    ∀ p, (s.prec p).state = .idle ∨ (s.prec p).state = .switched ∧ (s.prec p).transfer = none

/-- In CONFIG-HALT the transmitter holds no frame (R49, R199). -/
def HaltQuiet (s : State) : Prop := s.phase = .halt → s.line.inHand = none

/-! ## Quiet states -/

/-- No other port than `p` asks for anything or holds anything: its record is IDLE without claim, demand, request or
entry on the driver link; no exercise step is in flight; the station runs and is neither isolated nor unheard. In such a
state an event of port `p` has its effect alone. -/
structure QuietBut (s : State) (p : Port) : Prop where
  running : s.phase = .running
  heard : s.peers.isolated = false ∧ s.peers.unheard = false
  idle : ∀ q, q ≠ p → (s.prec q).state = .idle ∧ (s.prec q).claim = none ∧ s.standing q = none
  queue : ∀ q, (s.dport q).queue = none ∧ (s.dport q).waiting = none
  step : s.exr.step = none
  demands : ∀ sp, tget s.prot.demands sp = none

end Sys2Proof.Machine
end

