-- ==== Sys2Proof/Certificates/Slice0/Obligations.lean ====
section
/-! DEFINITION. The obligations: what the provers are asked to prove of the model, from the numbered rules of the manual. -/

section

open Sys2Proof Sys2Proof.Machine

/-- The step takes the command at the front of the queue and runs it with the queue's rest; the queue is the model's own
(log 1). -/
def Obligations.StepRunsTheFrontCommand : Prop :=
  ∀ (i : Instr) (rest : List Instr) (s : State),
    step { s with pending := i :: rest } = exec i { s with pending := rest }

/-- The model's choice (log 13): with no command waiting 10 ms pass, and every expiry is a command of its own. -/
def Obligations.IdleStepLetsTimePass : Prop :=
  ∀ s : State, s.pending = [] → ∃ t, step s = .next t ∧
    (let down := fun x : Option Nat => x.map (· - 1)
     t.pending = s.pending ∧ t.straps = s.straps ∧ t.phase = s.phase ∧ t.config = s.config ∧ t.cfgdef = s.cfgdef ∧
     t.restartPending = s.restartPending ∧ t.scan = s.scan ∧ t.dec = s.dec ∧ t.cap = s.cap ∧ t.tim = s.tim ∧
     t.freq = s.freq ∧ t.alm = s.alm ∧
     t.loadTimer = down s.loadTimer ∧ t.listenTimer = down s.listenTimer ∧
     t.line = { s.line with
       spacing := down s.line.spacing, routine := down s.line.routine, linefault := down s.line.linefault } ∧
     t.peers.isolated = s.peers.isolated ∧ t.peers.unheard = s.peers.unheard ∧
     t.peers.silence = down s.peers.silence ∧ t.peers.unheardTimer = down s.peers.unheardTimer ∧
     (∀ n, t.peer n = { s.peer n with
       age := (s.peer n).age.map fun a => min 65535 (a + 1)
       quarantine := (s.peer n).quarantine.map fun q => { q with timer := q.timer - 1 } }) ∧
     t.prot.spareLock = s.prot.spareLock ∧ t.prot.demands = s.prot.demands ∧
     (∀ p, t.prec p = { s.prec p with
       window := down (s.prec p).window, holdoff := down (s.prec p).holdoff, wtr := down (s.prec p).wtr }) ∧
     (∀ p, t.dport p = { s.dport p with
       pairs := (t.dport p).pairs, retry := (s.dport p).retry.map fun r => { r with timer := down r.timer } }) ∧
     (∀ p sp, t.pair p sp = { s.pair p sp with timer := down (s.pair p sp).timer }) ∧
     t.drv.inFlight = s.drv.inFlight.map (fun f => { f with allowance := f.allowance - 1 }) ∧
     t.exr = { s.exr with
       step := s.exr.step.map fun st => { st with window := down st.window }
       stepTimer := down s.exr.stepTimer })

/-- A full reset with a number of 0–29 leaves the reset state with those straps, whatever stood before (R206 and the
reset tables); values the spec does not state are those of logs 2 to 6, no bridge known is log 11, the effective
request NONE is log 35, and that the commands already waiting stay queued is log 1. -/
def Obligations.FullResetGivesTheResetState : Prop :=
  ∀ (straps : BitVec 5) (s : State), straps.toNat < 30 →
    exec (.fullReset straps) s = .next { State.reset with
      pending := s.pending
      straps := straps
      tim := { Timing.reset with trace := [BitVec.ofNat 8 straps.toNat] } }

/-- Straps of 30 or 31 put the station in CONFIG-HALT (R199) with MAJ pulled (R173). -/
def Obligations.CraftNumberHaltsTheStation : Prop :=
  ∀ (straps : BitVec 5) (s : State), 30 ≤ straps.toNat → ∃ t, exec (.fullReset straps) s = .next t ∧
    t.phase = .halt ∧ t.loadTimer = none ∧ t.line.inHand = none ∧ t.line.responses = [] ∧
    t.alm.maj = true ∧ t.alm.crit = false ∧ t.alm.min = false ∧ t.outputHeld = true ∧
    (tget t.alm.points 140).active = true ∧ (tget t.alm.points 140).reported = true ∧
    (tget t.alm.points 140).acked = false ∧ (tget t.alm.points 140).severity = .major

/-- R199: “The station stays in CONFIG-HALT until the next full reset”, it takes no request and no correction event
(R162), and MAJ stays pulled (R173). That no frame is in hand there is CapacitiesAndRangesHold. -/
def Obligations.HaltLastsUntilFullReset : Prop :=
  ∀ (c : Instr) (s t : State), s.phase = .halt → s.line.inHand = none →
    (∀ straps, c ≠ .fullReset straps) → exec c s = .next t →
    t.phase = .halt ∧ t.line.inHand = none ∧ t.line.responses = s.line.responses ∧
    t.dec = s.dec ∧ t.cap = s.cap ∧ t.restartPending = s.restartPending ∧
    t.freq.k = s.freq.k ∧ t.freq.history = s.freq.history ∧ (s.alm.maj = true → t.alm.maj = true)

/-- The invariants hold right after reset. -/
def Obligations.ResetMeetsTheInvariants : Prop :=
  Bounded State.reset ∧ TimingSound State.reset ∧ AnnounceSound State.reset ∧ AlarmSound State.reset ∧
    PointsSound State.reset ∧ HaltQuiet State.reset ∧ RecordsSound State.reset ∧ DemandsSound State.reset

/-- The settling of a good image starts the work of 13.3 (R200, R201, R203); a readback with no used port ends at the
settling (R204). A holdover QL of 0 is settled, and counted as replaced, by the model's choice (log 9); where the
image's bytes hold its fields is the part's own (log 8). -/
def Obligations.GoodReadSettlesTheImage : Prop :=
  ∀ (image : List Byte) (i : RawImage) (temp : BitVec 9) (second : Bool) (s : State),
    s.phase = .loading second → s.drv = Driver.reset →
    ∃ t, exec (.configReadEnd (.completed image i (crcOf image)) temp) s = .next t ∧
      t.config = settleImage i s.own ∧ t.cfgdef = imageReplaced i s.own ∧ t.straps = s.straps ∧
      t.scan = { s.scan with siteSent := some (i.site, s.own) } ∧
      t.peers = { s.peers with silence := some 300 } ∧
      t.dec = s.dec ∧ t.cap = s.cap ∧
      t.freq.temp = temp ∧ t.freq.seconds = s.freq.seconds ∧ t.freq.k = s.freq.k ∧
      (∀ p : Port, i.used.getLsbD p.val = true →
        (t.dport p).queue = some ⟨.query, .driver, false⟩ ∨
          ∃ f, t.drv.inFlight = some f ∧ f.port = p ∧ f.entry.cmd = .query) ∧
      (i.used ≠ 0 → t.phase = .readback) ∧
      (i.used = 0 → t.phase = .listening ∧ t.listenTimer = some 100)

/-- R200: a failed read is tried once more, and the second failure takes the default image and makes CFGDEF active.
A timeout that finds time left changes nothing (log 14). -/
def Obligations.FailedReadsEndInTheDefaultImage : Prop :=
  ∀ (c : Instr) (temp : BitVec 9) (s : State),
    (s.loadTimer ≠ some 0 → exec (.configReadTimeout temp) s = .next s) ∧
    ((c = .configReadTimeout temp ∧ s.loadTimer = some 0 ∨ c = .configReadEnd .noAnswer temp ∨
      ∃ image fields held, crcOf image ≠ held ∧ c = .configReadEnd (.completed image fields held) temp) →
    (s.phase = .loading false →
      exec c s = .next { s with phase := .loading true, loadTimer := some 10 }) ∧
    (s.phase = .loading true →
      ∃ t, exec c s = .next t ∧ t.config = Config.default ∧ t.cfgdef = true ∧ t.loadTimer = none ∧
        t.freq.temp = temp ∧ t.dec = s.dec ∧ t.cap = s.cap))

/-- The clamps of R9, R68, R130 and R148 at the settling (R201); the statement holds for every value of the free
holdover QL of log 9. -/
def Obligations.SettledImageIsInRange : Prop :=
  ∀ (i : RawImage) (own : Station), let g := settleImage i own
    (g.failThr ≤ g.degThr ∧ g.degThr ≤ 255 ∧
      g.failThr ≤ g.failClear ∧ g.failClear ≤ min 255 (g.failThr + 15) ∧
      g.degThr ≤ g.degClear ∧ g.degClear ≤ min 255 (g.degThr + 15) ∧
      100 ≤ g.soak ∧ g.soak ≤ 1000 ∧ g.holdoff ≤ 100 ∧ 1 ≤ g.wtr ∧ g.wtr ≤ 15 ∧
      (∀ c, 1 ≤ tget g.ql c ∧ tget g.ql c ≤ 6) ∧ 1 ≤ g.accept ∧ g.accept ≤ g.reject ∧ g.reject ≤ 2047 ∧
      2 ≤ g.hoQl ∧ g.hoQl ≤ 6 ∧ 1 ≤ g.squelchMin ∧ g.squelchMin ≤ 6 ∧ 1 ≤ g.slew ∧ g.slew ≤ 64 ∧
      g.tb1 < g.tb2 ∧ g.tb2 ≤ 511 ∧ (∀ n, g.upstream = some n → n ≠ own ∧ n.val < 30) ∧
      (∀ c p, tget g.nominated c = some p → g.used.getLsbD p.val = true)) ∧
    (g.site = i.site ∧ g.used = i.used ∧ g.maps = i.maps ∧ g.degThr = i.degThr.toNat ∧ g.maskSet = i.maskSet ∧
      g.timConseq = i.timConseq ∧ g.autoLearn = i.autoLearn ∧ g.recovery = i.recovery ∧ g.latch = i.latch ∧
      g.kindMask = i.kindMask ∧ (∀ c, tget g.prio c = (tget i.prio c).toNat) ∧ g.revertive = i.revertive ∧
      g.hoLimit = i.hoLimit.toNat ∧ g.m1 = i.m1.toInt ∧ g.m2 = i.m2.toInt ∧ g.m3 = i.m3.toInt) ∧
    (imageReplaced i own = false →
      g.failThr = i.failThr.toNat ∧ g.failClear = min 255 (i.failThr.toNat + i.hyst.toNat) ∧
      g.degClear = min 255 (i.degThr.toNat + i.hyst.toNat) ∧ g.soak = i.soak.toNat ∧
      g.holdoff = i.holdoff.toNat ∧ g.wtr = i.wtr.toNat ∧ (∀ c, tget g.ql c = (tget i.ql c).toNat) ∧
      g.accept = i.accept.toNat ∧ g.reject = i.reject.toNat ∧ g.hoQl = i.hoQl.toNat ∧
      g.squelchMin = i.squelchMin.toNat ∧ g.slew = i.slew.toNat ∧ g.tb1 = i.tb1.toNat ∧ g.tb2 = i.tb2.toNat ∧
      g.upstream = i.upstream ∧ ∀ c, tget g.nominated c = tget i.nominated c)

/-- The end of the listen period (R205): the first announce is due (R49), the unheard test is evaluated for the first time
(R64), and the records found on spares are placed (R85).
A LISTEN_END that finds time left changes nothing (log 14). -/
def Obligations.ListenPeriodEndsInRunning : Prop :=
  ∀ s : State, (s.listenTimer ≠ some 0 → exec .listenEnd s = .next s) ∧
   (s.phase = .listening → s.listenTimer = some 0 → s.peers.unheard = false → s.peers.unheardTimer = none →
    ∃ t, exec .listenEnd s = .next t ∧ t.phase = .running ∧ t.listenTimer = none ∧ t.line.trigger = true ∧
      t.config = s.config ∧ t.scan = s.scan ∧ t.dec = s.dec ∧ t.cap = s.cap ∧
      t.freq.k = s.freq.k ∧ t.freq.seconds = s.freq.seconds ∧ t.prot.spareLock = s.prot.spareLock ∧
      (∀ p, (t.prec p).selection = (s.prec p).selection ∧ (t.prec p).command = (s.prec p).command) ∧
      t.peers = { s.peers with unheardTimer := if s.unheardTest then some 100 else none } ∧
      (∃ new, t.alm.log = s.alm.log ++ new) ∧
      (∀ p k, QuietBut { s with phase := .running } p → (s.prec p).state = .switched → (s.prec p).claim = some k →
        (s.prec p).transfer = none → (s.prec p).command = .none → (s.prec p).lockout = false →
        s.usableFor p k.spare = true → s.peerView k.spare = [] →
        (let c : Machine.Class := if s.sf p then .sigfail else if s.sd p then .sigdeg else .wtr
         (t.prec p).claim = some { k with cls := c } ∧ (t.prec p).firstCause = some (c, s.freq.seconds) ∧
         (c ≠ .wtr → (t.prec p).state = .switched ∧ (t.prec p).wtr = none) ∧
         (c = .wtr → (t.prec p).state = .wtr ∧ (t.prec p).wtr = some (6000 * s.config.wtr)))))

/-- One sample at each slot completion (R1–R3), counted by R5 unless masked (R12) and decoded by R4 and R19 to R22;
the first good answer of the slot is the one kept (R2). -/
def Obligations.SlotTakesOneSample : Prop :=
  ∀ s : State, s.settled = true →
    (∀ a : SampleAnswer,
      (s.scan.kept = none → a.checksumOk = true → a.recv.toNat = s.scan.next.val →
        exec (.sampleAnswer a) s = .next { s with scan := { s.scan with kept := some a.sample } }) ∧
      ((s.scan.kept ≠ none ∨ a.checksumOk = false ∨ a.recv.toNat ≠ s.scan.next.val) →
        exec (.sampleAnswer a) s = .next s)) ∧
    ∃ t, exec .slotCompletion s = .next t ∧
      (let r := s.scan.next
       let x := s.scan.kept.getD (s.recv r).last
       let w := x.word
       let valid := x.tracer = true ∧
         w.check.toNat = (w.site.toNat + 7 * w.station.toNat + 13 * w.port.toNat) % 64
       let i : Identity := ⟨w.site, w.station, w.port⟩
       let d := s.decv r
       let e := t.decv r
       let fits := fun j : Identity => r.val < 16 ∨ 16 ≤ j.port.toNat ∧ j.port.toNat ≤ 19
       t.scan.next = r + 1 ∧ t.scan.kept = none ∧ (t.recv r).last = x ∧
       (t.recv r).errors = (if s.scan.kept.isSome then 0 else min 255 ((s.recv r).errors + 1)) ∧
       (s.maskLeft r = 0 →
         (t.recv r).los = (s.recv r).los.take 2 x.lol (!x.lol) ∧
         (t.recv r).low = (s.recv r).low.take 3 (decide (x.code.toNat < s.config.failThr))
           (decide (s.config.failClear ≤ x.code.toNat)) ∧
         (t.recv r).deg = (s.recv r).deg.take s.config.soak (decide (x.code.toNat < s.config.degThr))
           (decide (s.config.degClear ≤ x.code.toNat))) ∧
       (0 < s.maskLeft r →
         (t.recv r).los = (s.recv r).los ∧ (t.recv r).low = (s.recv r).low ∧ (t.recv r).deg = (s.recv r).deg) ∧
       t.maskLeft r = s.maskLeft r - 1 ∧
       (valid → e.cand = some i ∧ e.absence = 0 ∧
         e.repeats = (if d.cand = some i then min 8 (d.repeats + 1) else 1) ∧
         e.ident = if e.repeats = 8 then some i else d.ident) ∧
       (¬valid → e.cand = none ∧ e.repeats = 0 ∧ e.absence = min 100 (d.absence + 1) ∧
         e.ident = if e.absence = 100 then none else d.ident) ∧
       (∀ j, e.ident = some j → e.ident ≠ d.ident → s.config.autoLearn = true → d.expect = none → fits j →
         e.expect = some j) ∧
       ((e.ident = d.ident ∨ e.ident = none ∨ s.config.autoLearn = false ∨ d.expect ≠ none ∨
         ∃ j, e.ident = some j ∧ ¬fits j) → e.expect = d.expect) ∧
       (∀ q, q ≠ r → t.recv q = s.recv q ∧ t.maskLeft q = s.maskLeft q ∧ t.decv q = s.decv q) ∧
       t.dec.maint = s.dec.maint) ∧
      EventFrame { s with scan := t.scan, dec := t.dec, cap := t.cap } t

/-- R6, whole. -/
def Obligations.LosFollowsTheLightFlagAlone : Prop :=
  ∀ (g : Config) (r : RecvScan) (a b : Sample),
    (r.los = ⟨false, 0⟩ → a.lol = true → b.lol = true →
      (r.count g a).los.active = false ∧ ((r.count g a).count g b).los = ⟨true, 0⟩) ∧
    (r.los = ⟨true, 0⟩ → a.lol = false → b.lol = false →
      (r.count g a).los.active = true ∧ ((r.count g a).count g b).los = ⟨false, 0⟩) ∧
    (a.lol = b.lol → (r.count g a).los = (r.count g b).los) ∧
    (a.lol = false → a.code = 0 → r.los.active = false → r.low = ⟨false, 0⟩ → r.deg = ⟨false, 0⟩ →
      0 < g.failThr → 0 < g.degThr → 0 < g.soak →
      (∀ n, ((fun x : RecvScan => x.count g a)^[n] r).los.active = false) ∧
      ((fun x : RecvScan => x.count g a)^[3] r).low.active = true ∧
      ((fun x : RecvScan => x.count g a)^[g.soak] r).deg.active = true)

/-- R5: the sample that completes the run is the one at which the condition changes. -/
def Obligations.ConditionChangesAtItsTarget : Prop :=
  ∀ (n : Nat) (x : Bool), 0 < n →
    (∀ k, k < n → (fun c : Condition => c.take n true x)^[k] ⟨false, 0⟩ = ⟨false, k⟩) ∧
    (fun c : Condition => c.take n true x)^[n] ⟨false, 0⟩ = ⟨true, 0⟩ ∧
    (∀ k, k < n → (fun c : Condition => c.take n x true)^[k] ⟨true, 0⟩ = ⟨true, k⟩) ∧
    (fun c : Condition => c.take n x true)^[n] ⟨true, 0⟩ = ⟨false, 0⟩ ∧
    (∀ k, Condition.take ⟨false, k⟩ n false x = ⟨false, 0⟩ ∧ Condition.take ⟨true, k⟩ n x false = ⟨true, 0⟩)

/-- R20 and R21 over runs of samples. -/
def Obligations.IdentityNeedsAFullRun : Prop :=
  ∀ (d : RecvDec) (i : Identity),
    ((fun x : RecvDec => x.take (some i))^[8] d).ident = some i ∧
    (d.cand ≠ some i → ∀ k, k < 8 → ((fun x : RecvDec => x.take (some i))^[k] d).ident = d.ident) ∧
    ((fun x : RecvDec => x.take none)^[100] d).ident = none ∧
    (d.absence = 0 → ∀ k, 0 < k → k < 100 →
      ((fun x : RecvDec => x.take none)^[k] d).ident = d.ident ∧
      ((fun x : RecvDec => x.take none)^[k] d).cand = none ∧
      ((fun x : RecvDec => x.take none)^[k] d).absence = k)

/-- R29 and R30 at a slot completion. -/
def Obligations.IdentityChangeIsCaptured : Prop :=
  ∀ s : State, s.settled = true → ∃ t, exec .slotCompletion s = .next t ∧
    (let r := s.scan.next
     let kind : CaptureKind := match (t.decv r).ident, (s.decv r).expect with
       | none, _ => .lost
       | some _, none => .unlearned
       | some i, some e => if i = e then .isMatch else .mismatch
     let rec' : CaptureRec := ⟨r, (s.decv r).ident, (t.decv r).ident, s.freq.seconds, kind⟩
     ((t.decv r).ident ≠ (s.decv r).ident → s.cap.queue.length < 4 →
       t.cap = { s.cap with queue := s.cap.queue ++ [rec'] }) ∧
     ((t.decv r).ident ≠ (s.decv r).ident → 4 ≤ s.cap.queue.length → t.cap = { s.cap with lost := true }) ∧
     ((t.decv r).ident = (s.decv r).ident → t.cap = s.cap ∧ (t.decv r).expect = (s.decv r).expect))

/-- R22: “An expectation once set can be replaced by LRN, and it becomes UNSET again only at full reset.” -/
def Obligations.ExpectationLastsUntilFullReset : Prop :=
  ∀ (c : Instr) (s t : State) (r : Recv), (∀ straps, c ≠ .fullReset straps) → exec c s = .next t →
    (s.decv r).expect.isSome = true → (t.decv r).expect.isSome = true

/-- The line's view (R34) and its timers (R44–R46).
An expiry that finds time left on its timer, or the timer stopped, changes nothing (log 14). -/
def Obligations.LineViewAndLineTimers : Prop :=
  ∀ s : State,
    (exec .lineActivity s = .next { s with line := { s.line with
      view := .active, rx := if s.hearing then .assembling else s.line.rx } }) ∧
    (exec .lineIdle s = .next { s with line := { s.line with view := .idle, rx := .quiet } }) ∧
    (s.line.spacing = some 0 →
      exec .spacingTimerExpiry s = .next { s with line := { s.line with spacing := none } }) ∧
    (s.line.spacing ≠ some 0 → exec .spacingTimerExpiry s = .next s) ∧
    (s.line.routine = some 0 →
      exec .routineTimerExpiry s = .next { s with line := { s.line with routine := none, routineDue := true } }) ∧
    (s.line.routine ≠ some 0 → exec .routineTimerExpiry s = .next s) ∧
    (s.line.linefault ≠ some 0 → exec .linefaultTimerExpiry s = .next s) ∧
    (s.line.linefault = some 0 → ∃ t, exec .linefaultTimerExpiry s = .next t ∧
      EventFrame { s with line := { s.line with linefault := none } } t)

/-- Sending (R36) and judging (R35, R37) agree on every frame, and building (R47) and judging (R38) on every announce
content; ports above 31 and the fourth flag bit are accepted by log 18. -/
def Obligations.FramesAndAnnouncesAreReadBack : Prop :=
  (∀ f : Frame, f.payload.length ≤ 64 → frameOf f.bits = some f) ∧
  (∀ (src : BitVec 5) (a : Announce), a.claims.length ≤ 4 → sameSpare a.claims = false →
    (∀ c ∈ a.claims, c.cls ≠ .undecided ∧ ¬(16 ≤ c.port.toNat ∧ c.port.toNat ≤ 30) ∧
      (c.cls = .lockout ↔ c.port = 31)) →
    1 ≤ a.ql → a.ql ≤ 7 → a.trace.length ≤ 8 → a.trace.head? = some (src.setWidth 8) →
    announceOf src a.bytes = some a)

/-- R53, R54 and R60 at the arrival of an ANNOUNCE (R39), with the end of the unheard state (R62). -/
def Obligations.AnnounceIsTakenIntoThePeerView : Prop :=
  ∀ (bits : List Bool) (f : Frame) (a : Announce) (n : Station) (s : State),
    s.settled = true → s.line.rx ≠ .ignoring → frameOf bits = some f → f.accepted s.own = true → f.kind = 1 →
    announceOf f.source f.payload = some a → n.val = f.source.toNat →
    ∃ t, exec (.frameArrival bits) s = .next t ∧
      t.peer n = { present := true, age := some 0, content := some a, quarantine := none } ∧
      (∀ m, m ≠ n → t.peer m = s.peer m) ∧ t.peers.isolated = false ∧ t.peers.silence = some 300 ∧
      (t.peers.unheard = true ↔ s.peers.unheard = true ∧ a.heard.getMsbD s.own.val = false) ∧
      EventFrame { s with peers := t.peers, line := s.lineAfter s.line.responses } t

/-- R39 for the frames that carry no announce: a REQUEST frame's arrival is its row's command (R179, R180); R35, R37 and R38
discard the rest. -/
def Obligations.OtherFramesOnlyRefresh : Prop :=
  ∀ (bits : List Bool) (s : State), s.settled = true → s.line.rx ≠ .ignoring →
    (∀ (f : Frame) (n : Station), frameOf bits = some f → f.accepted s.own = true → n.val = f.source.toNat →
      (f.kind = 3 → ∀ c, requestOf c = some (n, f.target, f.payload) → exec (.frameArrival bits) s = exec c s) ∧
      ((f.kind = 2 ∨ f.kind = 3 ∧ f.target ≠ 63 ∧ f.target.toNat ≠ s.own.val) →
        ∃ t, exec (.frameArrival bits) s = .next t ∧ t.peers = s.heardFrom n ∧
          EventFrame { s with peers := s.heardFrom n, line := s.lineAfter s.line.responses } t)) ∧
    ((frameOf bits = none ∨
        (∃ f, frameOf bits = some f ∧ (f.accepted s.own = false ∨
          f.kind = 1 ∧ announceOf f.source f.payload = none))) →
      exec (.frameArrival bits) s = .next { s with line := s.lineAfter s.line.responses })

/-- The arbiter's choice (R40), the deferral (R41) and the start of an attempt (R42, R45, R46). -/
def Obligations.AttemptTakesTheChosenWork : Prop :=
  ∀ (elapsed : Nat) (s : State), s.settled = true → s.line.view = .idle → s.line.sending = false →
    s.line.inHand = none →
    (∀ c : FrameClass, s.work = some c → elapsed < deferral s.own c → exec (.attemptStart elapsed) s = .next s) ∧
    (s.line.trigger = true → s.line.spacing = none → 2 * s.own.val ≤ elapsed →
      exec (.attemptStart elapsed) s = .next { s with line := { s.line with
        inHand := some ⟨.triggered, s.announceFrame⟩, sending := true, view := .active, rx := .assembling
        collisions := 0, trigger := false, routineDue := false, routine := none } }) ∧
    ((s.line.trigger = false ∨ s.line.spacing ≠ none) →
      (∀ r rest, s.line.responses = r :: rest → 2 * s.own.val ≤ elapsed →
        exec (.attemptStart elapsed) s = .next { s with line := { s.line with
          inHand := some ⟨.response, s.responseFrame r⟩, sending := true, view := .active, rx := .assembling
          collisions := 0 } }) ∧
      (s.line.responses = [] → s.line.routineDue = true → 80 + 2 * s.own.val ≤ elapsed →
        exec (.attemptStart elapsed) s = .next { s with line := { s.line with
          inHand := some ⟨.routine, s.announceFrame⟩, sending := true, view := .active, rx := .assembling
          collisions := 0, trigger := false, routineDue := false, routine := none } }))

/-- R42 and R43, with the timers of R45 and R46, the response queue of R48 and LINEFAULT by R44. -/
def Obligations.FrameInHandIsSentOrDropped : Prop :=
  ∀ (straps : BitVec 5) (h : InHand) (s : State), s.line.sending = true → s.line.inHand = some h →
    (let out : BayLine := { s.line with
       inHand := none, sending := false, collisions := 0
       spacing := if h.cls = .triggered then some 4 else s.line.spacing
       routine := if h.cls = .response then s.line.routine else some 50
       responses := if h.cls = .response then s.line.responses.drop 1 else s.line.responses }
     (s.restartPending = false → exec (.frameSent straps) s = .next { s with line := out }) ∧
     (s.line.collisions < 7 →
       exec (.collision straps) s = .next { s with line := { s.line with
         sending := false, collisions := s.line.collisions + 1 } }) ∧
     (s.line.collisions = 7 → s.restartPending = false → ∃ t, exec (.collision straps) s = .next t ∧
       t.line.inHand = none ∧ EventFrame { s with line := { out with linefault := some 1000 } } t))

/-- What a restart keeps (R206 and the blocks' reset tables). The model's own: the tracer word of the held sample (log
4), the RSTA response known by its payload (log 26), no bridge known (log 11), the effective request NONE (log 35),
and H and t_entry none in FREERUN, t_entry none until the settling's sample in HOLDOVER (log 31). -/
def Obligations.RestartKeepsWhatItKeeps : Prop :=
  ∀ (straps : BitVec 5) (f : Frame) (s : State), s.restartPending = true →
    s.line.sending = true → s.line.inHand = some ⟨.response, f⟩ →
    s.line.responses.head?.map (·.payload) = some [17, 0] →
    ∃ t, exec (.frameSent straps) s = .next t ∧ t.straps = straps ∧
      (straps.toNat < 30 → t.phase = .loading false ∧ t.loadTimer = some 10 ∧ t.alm.maj = false) ∧
      (30 ≤ straps.toNat → t.phase = .halt ∧ t.loadTimer = none ∧ t.alm.maj = true) ∧
      (∀ r, (t.decv r).expect = (s.decv r).expect ∧ (t.decv r).ident = none) ∧
      t.cap.queue = s.cap.queue ∧ t.cap.lost = false ∧
      t.exr = { s.exr with enable := false, step := none, stepTimer := none } ∧
      t.freq.k = s.freq.k ∧ t.freq.history = s.freq.history ∧ t.freq.seconds = s.freq.seconds ∧
      t.freq.t = none ∧ t.freq.lock = 0 ∧ t.freq.tEntry = none ∧
      (4 ≤ s.freq.history.length → straps.toNat < 30 →
        t.freq.state = .holdover ∧ t.freq.h = some (meanK s.freq.history) ∧ t.freq.hoTimer = some 0) ∧
      ((s.freq.history.length < 4 ∨ 30 ≤ straps.toNat) →
        t.freq.state = .freerun ∧ t.freq.h = none ∧ t.freq.hoTimer = none) ∧
      t.alm.log = s.alm.log ∧ t.alm.logOvr = false ∧ t.prot = Protection.reset ∧ t.drv = Driver.reset ∧
      t.peers = PeerView.reset ∧ t.scan = Scanner.reset ∧ t.line.responses = [] ∧ t.line.inHand = none ∧
      t.restartPending = false ∧ t.tim.selection = none ∧ t.tim.force = none

/-- R55 and R56, and R60 and R62, handed on by R63. That a frame taken first leaves no expiry is R55's and R60's; that an
expiry of the other timers with time left changes nothing either is log 14. -/
def Obligations.PeersExpireAndTheStationIsCutOff : Prop :=
  ∀ s : State,
    (∀ (n : Station) (a : Nat), (s.peer n).present = true → (s.peer n).age = some a → 200 ≤ a →
      ∃ t, exec (.peerExpiry n) s = .next t ∧
      (t.peer n).present = false ∧ (t.peer n).content = none ∧
      (t.peer n).age = some a ∧
      (t.peer n).quarantine = (match (s.peer n).quarantine, (s.peer n).content with
        | some q, _ => some q
        | none, some a => some ⟨a.claims, 1000⟩
        | none, none => some ⟨[], 1000⟩) ∧
      (∀ m, m ≠ n → t.peer m = s.peer m) ∧ t.peers.silence = s.peers.silence ∧
      t.peers.isolated = s.peers.isolated ∧ t.peers.unheard = s.peers.unheard ∧
      EventFrame { s with peers := t.peers } t) ∧
    (∀ n : Station, (s.peer n).present = false ∨ (∀ a, (s.peer n).age = some a → a < 200) →
      exec (.peerExpiry n) s = .next s) ∧
    (∀ n : Station, (∀ q, (s.peer n).quarantine = some q → q.timer ≠ 0) → exec (.quarantineEnd n) s = .next s) ∧
    (s.peers.silence ≠ some 0 → exec .silenceTimerExpiry s = .next s) ∧
    (s.peers.unheardTimer ≠ some 0 → exec .unheardTimerExpiry s = .next s) ∧
    (∀ (n : Station) (c : List AnnClaim), (s.peer n).quarantine = some ⟨c, 0⟩ → ∃ t, exec (.quarantineEnd n) s = .next t ∧
      t.peer n = { s.peer n with quarantine := none } ∧ (∀ m, m ≠ n → t.peer m = s.peer m) ∧
      EventFrame { s with peers := t.peers } t) ∧
    (s.peers.silence = some 0 → ∃ t, exec .silenceTimerExpiry s = .next t ∧
      t.peers = { s.peers with isolated := true, silence := none } ∧
      (s.phase = .running → t.line.trigger = true) ∧ EventFrame { s with peers := t.peers } t) ∧
    (s.peers.unheardTimer = some 0 → ∃ t, exec .unheardTimerExpiry s = .next t ∧
      t.peers = { s.peers with unheard := true, unheardTimer := none } ∧
      (s.phase = .running → t.line.trigger = true) ∧ EventFrame { s with peers := t.peers } t)

/-- R76, with the choice of R77 at the same event.
An expiry that finds time left on its timer, or the timer stopped, changes nothing (log 14). -/
def Obligations.HoldoffEndsInSeekingOrIdle : Prop :=
  (∀ (p : Port) (s : State), QuietBut s p → (s.prec p).state = .holdoff → (s.prec p).holdoff = some 0 →
    (s.prec p).claim = none → (s.prec p).transfer = none → (s.prec p).command = .none →
    (s.prec p).lockout = false →
    ∃ t, exec (.holdoffExpiry p) s = .next t ∧ (t.prec p).holdoff = none ∧
      (s.sf p = false → s.sd p = false → (t.prec p).state = .idle ∧ (t.prec p).request = none) ∧
      (∀ c, s.standing p = some c → s.firstOpen p = none → (t.prec p).state = .seeking ∧ (t.prec p).claim = none) ∧
      (∀ c sp, s.standing p = some c → s.firstOpen p = some sp →
        (t.prec p).state = .claiming ∧ (t.prec p).claim = some ⟨sp, c, false⟩ ∧ (t.prec p).window = some 8 ∧
        t.line.trigger = true) ∧
      (∀ q, q ≠ p → (t.prec q).state = (s.prec q).state ∧ (t.prec q).claim = (s.prec q).claim) ∧
      EventFrame s t) ∧
  (∀ (p : Port) (s : State), (s.prec p).holdoff ≠ some 0 → exec (.holdoffExpiry p) s = .next s)

/-- The window rows of R78 and R81 with the start of the CONNECT (R111, R112), and R124 for the exercise step.
A window with time left does not expire (log 14). -/
def Obligations.ClaimWindowSettlesAndConnects : Prop :=
  (∀ (p : Port) (k : Claim) (s : State), QuietBut s p → s.drv.inFlight = none → (s.prec p).claim = some k →
    (s.prec p).window = some 0 → s.standing p = some k.cls → s.causeOn p k.spare k.cls = false →
    ((s.prec p).state = .claiming → (s.prec p).transfer = none → s.misaimed p k.spare = false →
      ∃ t, exec (.claimWindowExpiry (.port p)) s = .next t ∧
        (t.prec p).state = .connecting ∧ (t.prec p).claim = some { k with settled := true } ∧
        (t.prec p).window = none ∧ (t.prec p).selection = (s.prec p).selection ∧ t.line.trigger = true ∧
        t.drv.inFlight = some ⟨p, ⟨.connect k.spare, .record, false⟩, some k.spare, 5⟩ ∧
        (∀ q, q ≠ p → (t.prec q).state = (s.prec q).state ∧ (t.prec q).claim = (s.prec q).claim) ∧
        EventFrame s t) ∧
    (∀ x : Transfer, (s.prec p).state = .switched → (s.prec p).transfer = some x → s.named p = some x.spare →
      x.spare ≠ k.spare → s.causeOn p x.spare k.cls = false →
      ∃ t, exec (.claimWindowExpiry (.port p)) s = .next t ∧
        (t.prec p).state = .switched ∧ (t.prec p).claim = some k ∧
        (t.prec p).transfer = some { x with settled := true } ∧ (t.prec p).window = none ∧
        (t.prec p).selection = (s.prec p).selection ∧ t.line.trigger = true ∧
        t.drv.inFlight = some ⟨p, ⟨.connect x.spare, .record, false⟩, some x.spare, 5⟩ ∧
        (∀ q, q ≠ p → (t.prec q).state = (s.prec q).state ∧ (t.prec q).claim = (s.prec q).claim) ∧
        EventFrame s t)) ∧
  (∀ s : State, s.exr.step = some ⟨.window, some false, some 0, false, none⟩ →
    (let p := s.exr.nextPort
     QuietBut { s with exr := { s.exr with step := none } } p → s.drv.inFlight = none →
     (s.prec p).state = .idle → (s.prec p).claim = none → s.standing p = none → (s.prec p).lockout = false →
     s.usableFor p s.exr.spare = true → s.peerView s.exr.spare = [] →
     ∃ t, exec (.claimWindowExpiry .exerciser) s = .next t ∧
       t.exr = { s.exr with step := some ⟨.bridge, some true, none, false, none⟩ } ∧ t.line.trigger = true ∧
       t.drv.inFlight = some ⟨p, ⟨.bridge s.exr.spare, .exerciser, false⟩, some s.exr.spare, 5⟩ ∧
       (∀ q, (t.prec q).state = (s.prec q).state ∧ (t.prec q).claim = (s.prec q).claim) ∧ EventFrame s t)) ∧
  (∀ s : State,
    (∀ p, (s.prec p).window ≠ some 0 → exec (.claimWindowExpiry (.port p)) s = .next s) ∧
    ((∀ st, s.exr.step = some st → st.window ≠ some 0) → exec (.claimWindowExpiry .exerciser) s = .next s))

/-- R82's timer row and the entry to RELEASING (R83), then R83's rows for the end of the RESTORE, judged by R108, with the
retry of R116.
An expiry that finds time left on its timer, or the timer stopped, changes nothing (log 14). -/
def Obligations.WtrEndReleasesTheSpare : Prop :=
  (∀ (p : Port) (k : Claim) (s : State), QuietBut s p → s.drv.inFlight = none →
    (s.prec p).state = .wtr → (s.prec p).claim = some k → (s.prec p).transfer = none →
    (s.prec p).selection = some k.spare → (s.prec p).wtr = some 0 →
    ∃ t, exec (.wtrExpiry p) s = .next t ∧
      (t.prec p).state = .releasing ∧ (t.prec p).claim = some k ∧ (t.prec p).wtr = none ∧
      (t.prec p).selection = some k.spare ∧
      t.drv.inFlight = some ⟨p, ⟨.restore, .record, false⟩, some k.spare, 5⟩ ∧
      (∀ q, q ≠ p → (t.prec q).state = (s.prec q).state ∧ (t.prec q).claim = (s.prec q).claim) ∧
      EventFrame s t) ∧
  (∀ (p : Port) (s : State), (s.prec p).wtr ≠ some 0 → exec (.wtrExpiry p) s = .next s) ∧
  (∀ (p : Port) (e : Entry) (sp : Spare) (left : Nat) (s : State), QuietBut s p → (s.prec p).state = .releasing →
    (s.prec p).selection.isSome = true → e.cmd = .restore → s.drv.inFlight = some ⟨p, e, some sp, left⟩ →
    (let masked := if s.config.maskSet = 3 then tget s.scan.masks sp else maskSamples s.config.maskSet
     let tail := fun t : State => t.drv.inFlight = none ∧ tget t.scan.masks sp = masked ∧
       (∀ q x, t.pair q x = s.pair q x) ∧
       (∀ q, q ≠ p → (t.prec q).state = (s.prec q).state ∧ (t.prec q).claim = (s.prec q).claim) ∧
       EventFrame { s with scan := { s.scan with masks := t.scan.masks } } t
     (∀ br : Position, ∃ t, exec (.driverAnswer ⟨.restore, p, .done .working br⟩) s = .next t ∧ tail t ∧
       (t.prec p).selection = none ∧ (t.prec p).firstCause = none ∧ (t.prec p).transfer = none ∧
       (t.dport p).retry = none ∧ (t.dport p).mark = false ∧ (t.dport p).recvPos = some .working ∧
       t.line.trigger = true ∧
       (s.standing p = none → (t.prec p).state = .idle ∧ (t.prec p).claim = none) ∧
       (∀ c, s.standing p = some c → (t.prec p).state = .seeking ∧ (t.prec p).claim = none ∨
         (t.prec p).state = .claiming ∧ ∃ x, (t.prec p).claim = some ⟨x, c, false⟩)) ∧
     (∀ i : Instr, (i = .driverAnswer ⟨.restore, p, .error⟩ ∨ i = .allowanceExpiry ∧ left = 0 ∨
         ∃ rx br, rx ≠ Position.working ∧ i = .driverAnswer ⟨.restore, p, .done rx br⟩) →
       ∃ t, exec i s = .next t ∧ tail t ∧
         (t.prec p).state = .releasing ∧ (t.prec p).claim = (s.prec p).claim ∧
         (t.prec p).selection = (s.prec p).selection ∧ (t.prec p).firstCause = (s.prec p).firstCause ∧
         (t.dport p).retry = some ⟨.restore, some 1000⟩)))

/-- R79's success row and R72, by the steps of R113; R108 discards any other answer. -/
def Obligations.ConnectSuccessSwitchesThePort : Prop :=
  ∀ (p : Port) (k : Claim) (e : Entry) (left : Nat) (br : Position) (s : State), QuietBut s p →
    (s.prec p).state = .connecting → (s.prec p).claim = some k → k.settled = true → (s.prec p).transfer = none →
    (s.prec p).selection = none → (s.prec p).wtr = none → s.standing p = some k.cls → s.named p = none →
    s.causeOn p k.spare k.cls = false → e.cmd = .connect k.spare → e.maker = .record →
    s.drv.inFlight = some ⟨p, e, some k.spare, left⟩ →
    (∃ t, exec (.driverAnswer ⟨.connect, p, .done (.spare k.spare) br⟩) s = .next t ∧
      (t.prec p).selection = some k.spare ∧ (t.prec p).state = .switched ∧ (t.prec p).claim = some k ∧
      (t.prec p).firstCause = some (k.cls, s.freq.seconds) ∧ t.drv.inFlight = none ∧
      (t.dport p).recvPos = some (.spare k.spare) ∧ (t.dport p).mark = false ∧ (t.dport p).retry = none ∧
      (t.pair p k.spare).count = 0 ∧
      tget t.scan.masks k.spare =
        (if s.config.maskSet = 3 then tget s.scan.masks k.spare else maskSamples s.config.maskSet) ∧
      (∀ q, q ≠ p → (t.prec q).selection = (s.prec q).selection ∧ (t.prec q).state = (s.prec q).state) ∧
      EventFrame { s with scan := { s.scan with masks := t.scan.masks } } t) ∧
    (∀ a : DriverAnswer, (a.cmd ≠ .connect ∨ a.port ≠ p) → exec (.driverAnswer a) s = .next s)

/-- R108's last row, with R113's third step, R114, R115 and R79's failure row; the bridge as the Driver last knew it
is log 11. An expiry that finds the allowance of a later actuation changes nothing (log 14). -/
def Obligations.AllowanceExpiryFailsThePair : Prop :=
  (∀ (p : Port) (k : Claim) (e : Entry) (s : State), QuietBut s p →
    (s.prec p).state = .connecting → (s.prec p).claim = some k → (s.prec p).transfer = none →
    e.cmd = .connect k.spare → e.maker = .record →
    s.drv.inFlight = some ⟨p, e, some k.spare, 0⟩ →
    ∃ t, exec .allowanceExpiry s = .next t ∧
      (t.pair p k.spare).failed = true ∧ (t.pair p k.spare).count = (s.pair p k.spare).count ∧
      (t.pair p k.spare).timer = (match s.config.recovery with
        | 0 => none
        | 1 => if (s.pair p k.spare).count < 2 then some 1000 else none
        | 2 => if (s.pair p k.spare).count < 4 then some 6000 else none
        | 3 => some 6000) ∧
      (e.replaced = true →
        (∀ b, (s.dport p).bridge = some b → (t.pair p b).failed = true) ∧
        ((∀ x, (s.dport p).retry ≠ some ⟨.restore, x⟩) → (t.dport p).retry = some ⟨.unbridge, some 1000⟩)) ∧
      (e.replaced = false → (t.dport p).retry = (s.dport p).retry) ∧
      (∀ q x, (q ≠ p ∨ x ≠ k.spare ∧ (e.replaced = false ∨ (s.dport p).bridge ≠ some x)) → t.pair q x = s.pair q x) ∧
      (t.prec p).selection = (s.prec p).selection ∧
      ((t.prec p).state = .idle ∨ (t.prec p).state = .seeking ∨ (t.prec p).state = .claiming) ∧
      (∀ k', (t.prec p).claim = some k' → k'.spare ≠ k.spare) ∧
      (s.standing p = none → (t.prec p).state = .idle) ∧
      tget t.scan.masks k.spare =
        (if s.config.maskSet = 3 then tget s.scan.masks k.spare else maskSamples s.config.maskSet) ∧
      EventFrame { s with scan := { s.scan with masks := t.scan.masks } } t) ∧
  (∀ s : State, (∀ f, s.drv.inFlight = some f → f.allowance ≠ 0) → exec .allowanceExpiry s = .next s)

/-- R115's expiry with R117, and R116: the Driver goes on trying. The bridge as the Driver last knew it is log 11.
An expiry that finds time left on its timer, or the timer stopped, changes nothing (log 14).
That the Driver's own UNBRIDGE is the retry's command is log 21. -/
def Obligations.RecoveryForgivesAndRetryAsksAgain : Prop :=
  (∀ (p : Port) (sp : Spare) (s : State), (s.pair p sp).timer = some 0 →
    ∃ t, exec (.recoveryTimerExpiry p sp) s = .next t ∧
      t.pair p sp = ⟨false, min 255 ((s.pair p sp).count + 1), none⟩ ∧
      (∀ q x, (q ≠ p ∨ x ≠ sp) → t.pair q x = s.pair q x) ∧
      ((∀ x, x ≠ sp → (s.pair p x).failed = false) → (t.dport p).retry = none → (s.dport p).mark = false →
        t.actfail p = false) ∧
      EventFrame s t) ∧
  (∀ (p : Port) (sp : Spare) (s : State), (s.pair p sp).timer ≠ some 0 →
    exec (.recoveryTimerExpiry p sp) s = .next s) ∧
  (∀ (p : Port) (s : State), (∀ k, (s.dport p).retry ≠ some ⟨k, some 0⟩) → exec (.retryTimerExpiry p) s = .next s) ∧
  (∀ (p : Port) (s : State), QuietBut s p → s.drv.inFlight = none →
    ((s.prec p).state = .releasing → (s.dport p).retry = some ⟨.restore, some 0⟩ →
      ∃ t, exec (.retryTimerExpiry p) s = .next t ∧
        t.drv.inFlight = some ⟨p, ⟨.restore, .driver, false⟩, (s.prec p).selection, 5⟩ ∧
        (t.dport p).retry = some ⟨.restore, none⟩ ∧ (t.prec p).state = .releasing ∧
        (t.prec p).claim = (s.prec p).claim ∧ (t.prec p).selection = (s.prec p).selection ∧ EventFrame s t) ∧
    ((s.prec p).state = .idle → (s.prec p).claim = none → s.standing p = none →
      (s.dport p).retry = some ⟨.unbridge, some 0⟩ →
      ∃ t, exec (.retryTimerExpiry p) s = .next t ∧
        t.drv.inFlight = some ⟨p, ⟨.unbridge, .driver, false⟩, (s.dport p).bridge, 5⟩ ∧
        (t.dport p).retry = some ⟨.unbridge, none⟩ ∧ (t.prec p).state = .idle ∧
        (t.prec p).claim = none ∧ (t.prec p).selection = (s.prec p).selection ∧ EventFrame s t)) ∧
  (∀ (p : Port) (n : Option Nat) (sp : Option Spare) (left : Nat) (rx : Position) (s : State), QuietBut s p →
    (s.dport p).retry = some ⟨.unbridge, n⟩ →
    s.drv.inFlight = some ⟨p, ⟨.unbridge, .driver, false⟩, sp, left⟩ →
    ∃ t, exec (.driverAnswer ⟨.unbridge, p, .done rx .working⟩) s = .next t ∧
      (t.dport p).retry = none ∧ (t.dport p).bridgePos = some .working ∧ (t.dport p).bridge = none ∧
      (∀ q x, t.pair q x = s.pair q x) ∧ EventFrame { s with scan := { s.scan with masks := t.scan.masks } } t)

/-- R122 to R124, and the advance of R125 after SKIPPED.
An expiry that finds time left on its timer, or the timer stopped, changes nothing (log 14). -/
def Obligations.StepTimerBeginsAStepOrSkips : Prop :=
  ∀ s : State, (s.exr.stepTimer ≠ some 0 → exec .stepTimerExpiry s = .next s) ∧
   (s.phase = .running → s.exr.stepTimer = some 0 → s.exr.enable = true → s.exr.step = none →
    (s.used s.exr.nextPort = false → ∃ t, exec .stepTimerExpiry s = .next t ∧
      tget t.exr.results s.exr.nextPort =
        { tget s.exr.results s.exr.nextPort with result := .skipped, seconds := s.freq.seconds } ∧
      t.exr.nextPort = s.exr.nextPort + 1 ∧ t.exr.step = none ∧
      (s.exr.continuous = true → t.exr.remaining = s.exr.remaining ∧ t.exr.enable = true ∧
        t.exr.stepTimer = if s.exr.mode = .free then some 1000 else none) ∧
      (s.exr.continuous = false → t.exr.remaining = s.exr.remaining - 1 ∧
        t.exr.enable = decide (1 < s.exr.remaining) ∧
        t.exr.stepTimer = if s.exr.mode = .free ∧ 1 < s.exr.remaining then some 1000 else none) ∧
      EventFrame s t) ∧
    (QuietBut s s.exr.nextPort → (s.prec s.exr.nextPort).state = .idle → (s.prec s.exr.nextPort).claim = none →
      s.standing s.exr.nextPort = none → (s.prec s.exr.nextPort).lockout = false →
      s.used s.exr.nextPort = true → s.inMap s.exr.nextPort s.exr.spare = true →
      s.usableFor s.exr.nextPort s.exr.spare = true → s.viewOf s.exr.spare = [] →
      ∃ t, exec .stepTimerExpiry s = .next t ∧
        t.exr = { s.exr with stepTimer := none, step := some ⟨.window, some false, some 8, false, none⟩ } ∧
        t.line.trigger = true ∧ EventFrame s t))

/-- The rows of R125, with R114 and R116 at a failure. A step that runs on after a STOP starts the timer too (log 23);
the spare an UNBRIDGE concerns is the bridge as the Driver last knew it (log 11). The success of the step's UNBRIDGE
is not that of a retry's command (R116; log 21). -/
def Obligations.ExerciseEndsAtItsUnbridge : Prop :=
  (∀ (st : Step) (p : Port) (sp : Option Spare) (left : Nat) (rx : Position) (s : State),
    s.phase = .running → s.exr.step = some st → st.failed = false → st.ending = none →
    s.drv.inFlight = some ⟨p, ⟨.unbridge, .exerciser, false⟩, sp, left⟩ → p = s.exr.nextPort →
    ∀ ok : Bool, ∃ t,
      exec (.driverAnswer ⟨.unbridge, p, if ok then .done rx .working else .error⟩) s = .next t ∧
      t.exr.step = none ∧ t.exr.nextPort = p + 1 ∧
      t.exr.results = tset s.exr.results p ⟨if ok then .pass else .fail, s.freq.seconds, !ok⟩ ∧
      (s.exr.continuous = true → t.exr.remaining = s.exr.remaining ∧ t.exr.enable = s.exr.enable ∧
        t.exr.stepTimer = if s.exr.mode = .free then some 1000 else none) ∧
      (s.exr.continuous = false → t.exr.remaining = s.exr.remaining - 1 ∧
        t.exr.enable = (s.exr.enable && decide (1 < s.exr.remaining)) ∧
        t.exr.stepTimer = if s.exr.mode = .free ∧ 1 < s.exr.remaining then some 1000 else none) ∧
      (st.claim.isSome = true → t.line.trigger = true) ∧
      (ok = true → (t.dport p).retry.map (·.kind) = (s.dport p).retry.map (·.kind)) ∧
      (ok = false → (∀ b, sp = some b → (t.pair p b).failed = true) ∧
        ((∀ x, (s.dport p).retry ≠ some ⟨.restore, x⟩) → (t.dport p).retry = some ⟨.unbridge, some 1000⟩)) ∧
      EventFrame { s with scan := { s.scan with masks := t.scan.masks } } t) ∧
  (∀ (st : Step) (left : Nat) (s : State), s.exr.step = some st → st.stage = .bridge → st.failed = false →
    st.ending = none →
    (let p := s.exr.nextPort
     let b := s.exr.spare
     QuietBut { s with exr := { s.exr with step := none } } p →
     s.drv.inFlight = some ⟨p, ⟨.bridge b, .exerciser, false⟩, some b, left⟩ →
     (s.prec p).state = .idle → (s.prec p).claim = none → s.standing p = none → (s.prec p).lockout = false →
     s.usableFor p b = true → s.peerView b = [] →
     (let tail := fun t : State =>
        tget t.scan.masks b =
          (if s.config.maskSet = 3 then tget s.scan.masks b else maskSamples s.config.maskSet) ∧
        (∀ q x, (q ≠ p ∨ x ≠ b) → t.pair q x = s.pair q x) ∧
        (∀ q, (t.prec q).state = (s.prec q).state ∧ (t.prec q).claim = (s.prec q).claim) ∧
        EventFrame { s with scan := { s.scan with masks := t.scan.masks } } t
      let unbridges := fun (t : State) (x : Spare) =>
        t.drv.inFlight = some ⟨p, ⟨.unbridge, .exerciser, false⟩, some x, 5⟩
      (∀ rx, ∃ t, exec (.driverAnswer ⟨.bridge, p, .done rx (.spare b)⟩) s = .next t ∧ tail t ∧
        t.exr = { s.exr with step := some { st with stage := .unbridge } } ∧ unbridges t b ∧
        (t.pair p b).failed = false ∧ (t.pair p b).count = 0 ∧ (t.dport p).bridgePos = some (.spare b)) ∧
      (∀ rx, ∃ t, exec (.driverAnswer ⟨.bridge, p, .done rx .working⟩) s = .next t ∧ tail t ∧
        (t.pair p b).failed = true ∧ t.drv.inFlight = none ∧ t.exr.step = none ∧ t.exr.nextPort = p + 1 ∧
        t.exr.results = tset s.exr.results p ⟨.fail, s.freq.seconds, true⟩ ∧
        (st.claim.isSome = true → t.line.trigger = true)) ∧
      (∀ (i : Instr) (x : Spare),
        ((i = .driverAnswer ⟨.bridge, p, .error⟩ ∨ i = .allowanceExpiry ∧ left = 0 ∨
            ∃ rx, i = .driverAnswer ⟨.bridge, p, .done rx .unknown⟩) ∧ x = b ∨
          ∃ rx, i = .driverAnswer ⟨.bridge, p, .done rx (.spare x)⟩ ∧ x ≠ b) →
        ∃ t, exec i s = .next t ∧ tail t ∧ (t.pair p b).failed = true ∧ unbridges t x ∧
          t.exr.nextPort = s.exr.nextPort ∧ t.exr.results = s.exr.results ∧
          ∃ st', t.exr.step = some st' ∧ st'.stage = .unbridge ∧ st'.failed = true ∧ st'.claim = st.claim))))

/-- The table of R118, with the end of readback (R85, R204). The class `undecided` is the model's name for a claim
whose class R85 decides at the end of the listen period. -/
def Obligations.ReadbackQueryPlacesThePort : Prop :=
  ∀ (p : Port) (left : Nat) (s : State), s.phase = .readback → (s.dport p).queue = none → (s.dport p).waiting = none →
    s.drv.inFlight = some ⟨p, ⟨.query, .driver, false⟩, none, left⟩ →
    (let alone := ∀ q, q ≠ p → (s.dport q).queue = none ∧ (s.dport q).waiting = none
     let given := fun x : Spare => ∃ q, q < p ∧ (s.dport q).placed = some x
     let tail := fun (t : State) (bridged : Prop) =>
       (∀ q, q ≠ p → { t.dport q with queue := (s.dport q).queue } = s.dport q) ∧
       (∀ x, t.pair p x = s.pair p x) ∧ (t.dport p).retry = (s.dport p).retry ∧
       (¬bridged → (t.dport p).queue = none ∧ ∀ f, t.drv.inFlight = some f → f.port ≠ p) ∧
       (¬bridged → alone → t.phase = .listening ∧ t.listenTimer = some 100 ∧
         ∀ q, (∀ x, (t.dport q).placed = some x → (t.prec q).state = .switched ∧ (t.prec q).selection = some x ∧
             (t.prec q).claim = some ⟨x, .undecided, true⟩) ∧
           ((t.dport q).placed = none → t.prec q = s.prec q)) ∧
       (bridged ∨ ¬alone → t.phase = .readback ∧ ∀ q, t.prec q = s.prec q) ∧
       ((t.dport p).mark = true → s.used p = true → t.actfail p = true) ∧ EventFrame s t
     (∀ rx br, ∃ t, exec (.driverAnswer ⟨.query, p, .done rx br⟩) s = .next t ∧
       (t.dport p).recvPos = some rx ∧ (t.dport p).bridgePos = some br ∧
       (rx = .working → (t.dport p).placed = (s.dport p).placed ∧ (t.dport p).mark = (s.dport p).mark) ∧
       (rx = .unknown → (t.dport p).placed = (s.dport p).placed ∧ (t.dport p).mark = true) ∧
       (∀ x, rx = .spare x → given x → (t.dport p).placed = (s.dport p).placed ∧ (t.dport p).mark = true) ∧
       (∀ x, rx = .spare x → ¬given x → (t.dport p).placed = some x ∧ (t.dport p).mark = (s.dport p).mark) ∧
       (∀ x, br = .spare x →
         (t.dport p).queue = some ⟨.unbridge, .driver, false⟩ ∧ (t.dport p).bridge = some x ∨
           t.drv.inFlight = some ⟨p, ⟨.unbridge, .driver, false⟩, some x, 5⟩) ∧
       tail t (∃ x, br = .spare x)) ∧
     (∀ i : Instr, (i = .driverAnswer ⟨.query, p, .error⟩ ∨ i = .allowanceExpiry ∧ left = 0) →
       ∃ t, exec i s = .next t ∧ (t.dport p).recvPos = (s.dport p).recvPos ∧
         (t.dport p).bridgePos = (s.dport p).bridgePos ∧ (t.dport p).placed = (s.dport p).placed ∧
         (t.dport p).mark = true ∧ tail t False))

/-- R84: “So, while a station is isolated or unheard, none of its protection records is in CLAIMING or CONNECTING”,
and SWITCHED and WTR records go to RELEASING. -/
def Obligations.IsolatedStationHoldsNoOpenClaim : Prop :=
  ∀ (c : Instr) (s t : State), RecordsSound s →
    ((s.phase = .running ∧ s.cutOff = true) → ∀ p, (s.prec p).state ≠ .claiming ∧ (s.prec p).state ≠ .connecting ∧
      (s.prec p).state ≠ .switched ∧ (s.prec p).state ≠ .wtr) →
    exec c s = .next t → t.phase = .running → t.cutOff = true →
    ∀ p, (t.prec p).state ≠ .claiming ∧ (t.prec p).state ≠ .connecting ∧
      (t.prec p).state ≠ .switched ∧ (t.prec p).state ≠ .wtr

/-- The table of 5.4, over every step. -/
def Obligations.RecordsAgreeWithTheirState : Prop :=
  ∀ s t : State, RecordsSound s → step s = .next t → RecordsSound t

/-- R89: the view in the order of R88. -/
def Obligations.RankedViewHoldsEveryEntryInOrder : Prop :=
  ∀ (s : State) (sp : Spare),
    (s.rankedView sp).Perm (s.ownClaims sp ++ s.peerView sp ++ s.demandEntry sp) ∧
    (s.rankedView sp).Pairwise fun a b => b.outranks a = false

/-- R92, with the choice of R91, over every step; RecordsSound is kept by RecordsAgreeWithTheirState. -/
def Obligations.DemandsAreWantedAndYieldedTo : Prop :=
  ∀ s t : State, RecordsSound s → DemandsSound s → step s = .next t → DemandsSound t

/-- R111's order by command kind, class of the claim (its code of 3.2 rises with its rank, R88) and port, and the
start of R112. -/
def Obligations.ArbiterStartsTheFirstInOrder : Prop :=
  ∀ s : State,
    (s.drv.inFlight.isSome = true → arbitrate s = s) ∧
    ((∀ q, (s.dport q).queue = none) → arbitrate s = s) ∧
    (s.drv.inFlight = none → ∀ q e, (s.dport q).queue = some e →
      ∃ p e0, (s.dport p).queue = some e0 ∧
        (arbitrate s).drv.inFlight = some ⟨p, e0, s.spareConcerned p e0, 5⟩ ∧
        ((arbitrate s).dport p).queue = none ∧
        (∀ r, r ≠ p → (arbitrate s).dport r = s.dport r) ∧
        (let queued := fun (r : Port) (x : Cmd) => ∃ y, (s.dport r).queue = some y ∧ y.cmd = x
         let lowest := fun x : Cmd => ∀ r, queued r x → p ≤ r
         let last := ∀ r x, queued r x → (∃ sp, x = .bridge sp) ∨ x = .unbridge
         ((∀ r, ¬queued r .query) →
           ((∃ r, queued r .restore) → e0.cmd = .restore ∧ lowest .restore) ∧
           ((∀ r, ¬queued r .restore) → (∃ r sp, queued r (.connect sp)) → (∃ sp, e0.cmd = .connect sp) ∧
             ∀ r sp, queued r (.connect sp) → ∀ kp kr, (s.prec p).claim = some kp → (s.prec r).claim = some kr →
               kr.cls.code < kp.cls.code ∨ kr.cls = kp.cls ∧ p ≤ r) ∧
           (last → ∀ r x, queued r x → p ≤ r)) ∧
         ((∀ r x, queued r x → x = .query ∨ x = .unbridge) →
           ((∃ r, queued r .query) → e0.cmd = .query ∧ lowest .query) ∧
           ((∀ r, ¬queued r .query) → lowest .unbridge))))

/-- The edge tests of R132 and R133, the state changes of R134, and the gates of R135. That the returning edge itself
starts a FAILED candidate's gate, and a LOCKEDOUT one's waits for GATE_START, is log 25 (DEDUCED). -/
def Obligations.EdgesAndGatesOfACandidate : Prop :=
  ∀ (c : Cand) (s : State), s.phase = .running →
    ((lineOf c).isNone = true → (s.cand c).state ≠ .unused → (s.cand c).sigFail = false →
      ∃ t, exec (.edgeLoss c) s = .next t ∧
        t.cand c = { s.cand c with
          noEdges := true, sigFail := true, gate := false, f := none, good := 0
          state := if (s.cand c).state = .lockedout then .lockedout else .failed } ∧
        t.tim.selection ≠ some c ∧
        (∀ x, x ≠ c → (t.cand x).d = (s.cand x).d ∧ (t.cand x).hit = (s.cand x).hit) ∧ EventFrame s t) ∧
    ((s.cand c).noEdges = true → (s.cand c).sigFail = true →
      ((s.cand c).state = .failed ∨ (s.cand c).state = .lockedout) → s.failCauses c = [.noEdges] →
      ∃ t, exec (.edgeReturn c) s = .next t ∧
        t.cand c = { s.cand c with
          noEdges := false, sigFail := false, good := 0
          gate := if (s.cand c).state = .failed then true else (s.cand c).gate
          state := if (s.cand c).state = .failed then .qualifying else .lockedout } ∧
        (∀ x, x ≠ c → (t.cand x).d = (s.cand x).d ∧ (t.cand x).hit = (s.cand x).hit) ∧ EventFrame s t) ∧
    ((s.cand c).noEdges = false → exec (.edgeReturn c) s = .next s) ∧
    ((s.cand c).gate = false →
      ((s.cand c).state = .qualifying ∨ (s.cand c).state = .qualified ∨
        (s.cand c).state = .lockedout ∧ (s.cand c).sigFail = false) →
      exec (.gateStart c) s = .next { s with tim := { s.tim with
        cands := tset s.tim.cands c { s.cand c with gate := true } } }) ∧
    (((s.cand c).gate = true ∨ (s.cand c).state = .unused ∨ (s.cand c).state = .failed ∨
        (s.cand c).state = .lockedout ∧ (s.cand c).sigFail = true) → exec (.gateStart c) s = .next s) ∧
    ((s.cand c).gate = true → (s.cand c).state ≠ .unused → (s.cand c).sigFail = false → s.fails c = false →
      ∃ t, exec (.gateOverrun c) s = .next t ∧
        t.cand c = { s.cand c with
          gate := false, good := 0
          state := if (s.cand c).state = .qualified then .qualifying else (s.cand c).state } ∧
        t.tim.selection ≠ some c ∧
        (∀ x, x ≠ c → (t.cand x).d = (s.cand x).d ∧ (t.cand x).hit = (s.cand x).hit) ∧ EventFrame s t)

/-- R149 and R150, and the table of R136. -/
def Obligations.GateCompletionMeasuresAndJudges : Prop :=
  ∀ (c : Cand) (count : Nat) (s : State), s.phase = .running →
    ((s.cand c).gate = true → (s.cand c).sigFail = false → s.fails c = false →
      ((s.cand c).state = .qualifying ∨ (s.cand c).state = .qualified ∨ (s.cand c).state = .lockedout) →
      s.config.accept ≤ s.config.reject →
      ∃ t, exec (.gateCompletion c count) s = .next t ∧
        (let raw : Int := 25000000 - count
         let d : Int := if raw < -2047 then -2047 else if 2047 < raw then 2047 else raw
         let sat : Bool := decide (raw < -2047 ∨ 2047 < raw)
         let bad : Prop := sat = true ∨ s.config.reject < d.natAbs
         let r := s.cand c
         (t.cand c).d = some (d, sat) ∧
         (r.f = none → (t.cand c).f = some (16 * d)) ∧
         (∀ f, r.f = some f → (t.cand c).f = some (f + (16 * d - f).tdiv 8)) ∧
         (t.cand c).hit = false ∧ (t.cand c).gate = true ∧
         (bad → r.state ≠ .lockedout → (t.cand c).state = .qualifying ∧ (t.cand c).good = 0) ∧
         (¬bad → d.natAbs ≤ s.config.accept → r.state = .qualifying → r.good < 2 →
           (t.cand c).state = .qualifying ∧ (t.cand c).good = r.good + 1) ∧
         (¬bad → d.natAbs ≤ s.config.accept → r.state = .qualifying → r.good = 2 →
           (t.cand c).state = .qualified ∧ (t.cand c).good = 0) ∧
         (¬bad → (s.config.accept < d.natAbs ∨ r.state = .qualified) →
           (t.cand c).state = r.state ∧ (t.cand c).good = r.good) ∧
         (r.state = .lockedout → (t.cand c).state = .lockedout ∧ (t.cand c).good = r.good)) ∧
        (∀ x, x ≠ c → (t.cand x).d = (s.cand x).d ∧ (t.cand x).hit = (s.cand x).hit) ∧
        EventFrame { s with freq := t.freq } t) ∧
    ((s.cand c).gate = false → exec (.gateCompletion c count) s = .next s)

/-- Step 4 of R136, with R152 to R156. -/
def Obligations.SelectedCompletionCorrectsK : Prop :=
  ∀ (c : Cand) (count : Nat) (s : State), s.phase = .running → TimingSound s → (s.cand c).gate = true →
    (s.cand c).sigFail = false → (s.cand c).state ≠ .unused →
    ∃ t, exec (.gateCompletion c count) s = .next t ∧
      (t.tim.selection = some c → ∃ f, (t.cand c).f = some f ∧ t.freq.t = some f ∧
        t.freq.k = slew s.config.slew f s.freq.k ∧
        (s.tim.selection = some c →
          let size := (f - t.freq.k).natAbs
          (s.freq.state = .acquiring → size ≤ 16 → s.freq.lock + 1 < 4 →
            t.freq.state = .acquiring ∧ t.freq.lock = s.freq.lock + 1) ∧
          (s.freq.state = .acquiring → size ≤ 16 → s.freq.lock + 1 = 4 → t.freq.state = .locked) ∧
          (s.freq.state = .acquiring → 16 < size → t.freq.state = .acquiring ∧ t.freq.lock = 0) ∧
          (s.freq.state = .locked → size ≤ 64 → t.freq.state = .locked ∧
            t.freq.history = if (s.cand c).hit then s.freq.history else feed s.freq.history t.freq.k) ∧
          (s.freq.state = .locked → 64 < size → t.freq.state = .acquiring ∧ t.freq.lock = 0) ∧
          (s.freq.state = .acquiring ∨ 64 < size → t.freq.history = s.freq.history))) ∧
      (t.tim.selection ≠ some c → t.freq.k = s.freq.k ∧ t.freq.t = s.freq.t ∧ t.freq.history = s.freq.history) ∧
      EventFrame { s with freq := t.freq } t

/-- The seconds tick (R152 to R154, R158; before the settling R162), the holdover timer (R159) and what it announces at the
limit (R142, R143). That HOLDOVER_LIMIT_EXPIRY raises the timer to the limit is the model's choice (log 34). -/
def Obligations.SecondsTickAndHoldoverTimer : Prop :=
  ∀ (temp : BitVec 9) (s : State),
    (s.settled = false → exec (.secondsTick temp) s =
      .next { s with freq := { s.freq with seconds := s.freq.seconds + 1 } }) ∧
    (s.settled = true → ∃ t, exec (.secondsTick temp) s = .next t ∧
      t.freq.seconds = s.freq.seconds + 1 ∧ t.freq.temp = temp ∧ t.freq.history = s.freq.history ∧
      (s.freq.state = .locked ∨ s.freq.state = .acquiring → t.freq.k = s.freq.k ∧ t.freq.t = s.freq.t) ∧
      (s.freq.state = .freerun → t.freq.t = some s.freq.k ∧ t.freq.k = clampInt 32767 s.freq.k) ∧
      (∀ h e, s.freq.state = .holdover → s.freq.h = some h → s.freq.tEntry = some e →
        let target := clampInt 32767 (h + tempComp s.config temp - tempComp s.config e)
        t.freq.t = some target ∧ t.freq.k = slew s.config.slew target s.freq.k) ∧
      (∀ n, s.freq.state = .holdover → t.freq.state = .holdover → s.freq.hoTimer = some n →
        t.freq.hoTimer = some (min 918000 (n + 1)) ∧ t.freq.h = s.freq.h ∧ t.freq.tEntry = s.freq.tEntry) ∧
      EventFrame { s with freq := t.freq } t) ∧
    (s.phase = .running → TimingSound s → s.freq.state = .holdover → s.config.hoLimit ≠ 0 →
      (∀ c, (s.cand c).state ≠ .qualified) → ∃ t, exec .holdoverLimitExpiry s = .next t ∧
        t.freq = { s.freq with hoTimer := some (max (s.freq.hoTimer.getD 0) (s.config.hoLimit * 3600)) } ∧
        t.hoexpired = true ∧ (tget t.alm.points 156).active = true ∧
        t.tim.squelch = decide (s.config.squelchMin < 6) ∧
        t.tim.ql = (if s.config.squelchMin < 6 then 7 else 6) ∧ EventFrame s t) ∧
    (s.freq.state ≠ .holdover → exec .holdoverLimitExpiry s = .next s)

/-- R154: “K stays within ±32767. At each correction event it changes by at most the slew step S. Otherwise it changes
only at full reset”. -/
def Obligations.KMovesBySlewAlone : Prop :=
  ∀ (i : Instr) (s t : State), (∀ straps, i ≠ .fullReset straps) →
    -32767 ≤ s.freq.k → s.freq.k ≤ 32767 → exec i s = .next t →
    -32767 ≤ t.freq.k ∧ t.freq.k ≤ 32767 ∧ (t.freq.k - s.freq.k).natAbs ≤ s.config.slew ∧
    ((∀ c n, i ≠ .gateCompletion c n) → (∀ temp, i ≠ .secondsTick temp) → t.freq.k = s.freq.k)

/-- R139 and R151 over every step. -/
def Obligations.SelectionStaysQualified : Prop :=
  ∀ s t : State, TimingSound s → step s = .next t → TimingSound t

/-- R142 and R143 over every step. -/
def Obligations.AnnouncedTimingFollowsItsRules : Prop :=
  ∀ s t : State, AnnounceSound s → step s = .next t → AnnounceSound t

/-- The capacities and ranges the rules state, over every step. -/
def Obligations.CapacitiesAndRangesHold : Prop :=
  ∀ s t : State, Bounded s → HaltQuiet s → step s = .next t → Bounded t ∧ HaltQuiet t

/-- R173 and R174 over every step. -/
def Obligations.LinesAndSummaryFollowThePoints : Prop :=
  ∀ s t : State, AlarmSound s → step s = .next t → AlarmSound t

/-- R166 to R170 over every step. -/
def Obligations.PointsFollowTheirConditions : Prop :=
  ∀ s t : State, PointsSound s → step s = .next t → PointsSound t

/-- R175 with the read of R176, over every command of normal running. R176 allows either order of a LOGR's read and
the records of its own event: that the read is first, so that they find its room, is the model's choice (log 32). -/
def Obligations.ChangesOfReportsAreLogged : Prop :=
  ∀ (c : Instr) (s t : State), PointsSound s → s.phase = .running → exec c s = .next t → t.phase = .running →
    ∃ (k : Nat) (own : Option Transition),
      (k = 0 ∨ (∃ src tgt n, c = .logr src tgt n) ∨ ∃ bits, c = .frameArrival bits) ∧
      (let was := fun i : Fin 158 => tget s.alm.points i
       let is := fun i : Fin 158 => tget t.alm.points i
       let change := fun i : Fin 158 =>
         if i = 145 then own
         else if (is i).reported = true ∧ (was i).reported = false then some .raised
         else if (is i).reported = false ∧ (was i).reported = true then some .cleared
         else if (is i).reported = true ∧ (is i).severity ≠ (was i).severity then some .changed
         else none
       let new : List LogRec := (idx 158).filterMap fun i =>
         (change i).map fun x => ⟨t.freq.seconds, i, x, (is i).severity⟩
       let rest := s.alm.log.drop k
       t.alm.log = rest ++ new.take (32 - rest.length) ∧
       t.alm.logOvr = (s.alm.logOvr && k == 0 || decide (32 - rest.length < new.length)) ∧
       ((is 145).reported = false → own = if (was 145).reported then some .cleared else none) ∧
       ((is 145).reported = true → own = none ∨
         own = some .cleared ∧ (was 145).reported = true ∧ s.alm.logOvr = false ∧ t.alm.logOvr = true))

/-- The checks of R179 in their order, with R181 for the parameters and R198 for RSTA. -/
def Obligations.RequestsAreJudgedInOrder : Prop :=
  ∀ (c : Instr) (src : Station) (tgt : BitVec 6) (payload : List Byte) (s : State),
    requestOf c = some (src, tgt, payload) →
    (s.settled = false ∨ s.line.rx = .ignoring → exec c s = .next { s with line := s.lineAfter s.line.responses }) ∧
    (s.settled = true → s.line.rx ≠ .ignoring → src ≠ s.own → targetOk tgt = true →
      (s.restartPending = true ∨ (tgt.toNat ≠ 63 ∧ tgt.toNat ≠ s.own.val) ∨
          tgt.toNat = s.own.val ∧ 2 ≤ s.line.responses.length ∨
          tgt.toNat = 63 ∧ (src.val < 30 ∨ s.phase ≠ .running ∨ payload ≠ [10] ∧ payload ≠ [11]) →
        ∃ t, exec c s = .next t ∧ NothingAsked s t ∧
          EventFrame { s with peers := s.heardFrom src, line := s.lineAfter s.line.responses } t) ∧
      (s.restartPending = false → tgt.toNat = s.own.val → s.line.responses.length < 2 →
        (src.val < 30 → ∃ t, exec c s = .next t ∧ NothingAsked s t ∧ Answered s s t src [payload.headD 0, 4]) ∧
        (30 ≤ src.val → s.phase ≠ .running →
          ∃ t, exec c s = .next t ∧ NothingAsked s t ∧ Answered s s t src [payload.headD 0, 3]))) ∧
    (Takes s src tgt →
      (c.wellFormed = false ∧ c ≠ .lrn src tgt 255 →
        ∃ t, exec c s = .next t ∧ NothingAsked s t ∧ Answered s s t src [payload.headD 0, 2]) ∧
      (c = .rsta src tgt → ∃ t, exec c s = .next t ∧
        Answered s { s with restartPending := true } t src [17, 0]))

/-- R182 to R186: read after the request has been carried out (R180). Where the rules leave the bytes' form open they are
those of log 10 (DESIGN CHOICE). -/
def Obligations.ReadRequestsAnswerTheState : Prop :=
  ∀ (src : Station) (tgt : BitVec 6) (s : State), Takes s src tgt →
    (∃ t, exec (.stat src tgt) s = .next t ∧
      Answered s s t src (1 :: 0 :: statData (t.withResponses s.line.responses)) ∧
      (statData (t.withResponses s.line.responses)).length = 44) ∧
    (∀ n : Station, ∃ t, exec (.view src tgt (byte n.val)) s = .next t ∧
      Answered s s t src (2 :: 0 :: viewData (t.withResponses s.line.responses) n)) ∧
    (∀ p : Port, ∃ t, exec (.port src tgt (byte p.val) 1) s = .next t ∧
      Answered s s t src (3 :: 0 :: portData1 (t.withResponses s.line.responses) p)) ∧
    (∀ p : Port, ∃ t, exec (.port src tgt (byte p.val) 2) s = .next t ∧
      Answered s s t src (3 :: 0 :: portData2 (t.withResponses s.line.responses) p)) ∧
    (∀ sp : Spare, ∃ t, exec (.spar src tgt (byte sp.val)) s = .next t ∧
      Answered s s t src (4 :: 0 :: sparData (t.withResponses s.line.responses) sp)) ∧
    (∃ t, exec (.timg src tgt 0) s = .next t ∧
      Answered s s t src (5 :: 0 :: timgStationData (t.withResponses s.line.responses))) ∧
    (∀ c : Cand, ∃ t, exec (.timg src tgt (byte (c.val + 1))) s = .next t ∧
      Answered s s t src (5 :: 0 :: timgCandData (t.withResponses s.line.responses) c))

/-- CAPR by R31 and R188 and LOGR by R176 and R187, coded by R181. That a LOGR reads before the records of its own event are
appended is the model's choice (log 32). -/
def Obligations.LogAndCaptureReadsRemoveTheOldest : Prop :=
  ∀ (src : Station) (tgt : BitVec 6) (s : State), Takes s src tgt →
    (∀ x rest, s.cap.queue = x :: rest → ∃ t, exec (.capr src tgt) s = .next t ∧
      Answered s { s with cap := ⟨rest, false⟩ } t src
        ([7, 0, 1, byte x.recv.val] ++ identOrNone x.old ++ identOrNone x.new ++ u32 x.seconds.toNat ++
          [byte x.kind.code])) ∧
    (s.cap.queue = [] → ∃ t, exec (.capr src tgt) s = .next t ∧ Answered s s t src [7, 0, 0]) ∧
    (∀ n : Byte, ∃ t, exec (.logr src tgt n) s = .next t ∧
      (let k := min (max 1 (min 8 n.toNat)) s.alm.log.length
       Answered s s t src ([6, 0, byte k] ++ (s.alm.log.take k).flatMap LogRec.bytes) ∧
       ∃ new, t.alm.log = s.alm.log.drop k ++ new ∧
         (0 < k → (s.alm.log.drop k ++ new).length < 32 → t.alm.logOvr = false) ∧
         (k = 0 → s.alm.logOvr = true → t.alm.logOvr = true)))

/-- R26, R27 and R189. -/
def Obligations.LearnTakesTheDecodedIdentity : Prop :=
  ∀ (src : Station) (tgt : BitVec 6) (s : State), Takes s src tgt →
    (∀ (r : Recv) (i : Identity), (s.decv r).ident = some i →
      (16 ≤ r.val → 16 ≤ i.port.toNat ∧ i.port.toNat ≤ 19) →
      ∃ t, exec (.lrn src tgt (byte r.val)) s = .next t ∧ t.timOf r = false ∧ t.tlostOf r = false ∧
        Answered s { s with dec := { s.dec with recvs := tset s.dec.recvs r { s.decv r with expect := some i } } }
          t src [8, 0]) ∧
    (∀ r : Recv, ((s.decv r).ident = none ∨
        16 ≤ r.val ∧ ∃ i, (s.decv r).ident = some i ∧ ¬(16 ≤ i.port.toNat ∧ i.port.toNat ≤ 19)) →
      ∃ t, exec (.lrn src tgt (byte r.val)) s = .next t ∧ Answered s s t src [8, 3]) ∧
    (∃ t, exec (.lrnAll src tgt) s = .next t ∧
      (∀ r, t.decv r = { s.decv r with expect :=
        match (s.decv r).ident with
        | some i => if r.val < 16 ∨ 16 ≤ i.port.toNat ∧ i.port.toNat ≤ 19 then some i else (s.decv r).expect
        | none => (s.decv r).expect }) ∧
      t.dec.maint = s.dec.maint ∧
      Answered s { s with dec := t.dec } t src
        [8, 0, byte ((idx 20).countP fun r => decide ((t.decv r).expect ≠ (s.decv r).expect))])

/-- R190, with R28's effect on SF and R167's on the points. -/
def Obligations.MaskActsOnTimAndOnThePoints : Prop :=
  ∀ (src : Station) (tgt : BitVec 6) (p : Port) (s : State), Takes s src tgt → ∀ on : Bool,
    ∃ t, exec (if on then .maskOn src tgt (byte p.val) else .maskOff src tgt (byte p.val)) s = .next t ∧
      Answered s { s with dec := { s.dec with maint := tset s.dec.maint p on } } t src [9, 0] ∧
      t.sf p = (s.used p && ((s.recv (portRecv p)).los.active || (s.recv (portRecv p)).low.active ||
        s.timOf (portRecv p) && s.config.timConseq && !on)) ∧
      ∀ k : Fin 8, (tget t.alm.points (portPoint k p)).masked =
        (tget s.config.kindMask (portKind k).place || on || !s.used p)

/-- R171 and R172 as R191 and R192 take them, and R179 for ALL. -/
def Obligations.ClrlAndAcoActOnThePoints : Prop :=
  ∀ (src : Station) (s : State), s.phase = .running → s.line.rx ≠ .ignoring → s.restartPending = false →
    30 ≤ src.val → src ≠ s.own → ∀ (all : Bool) (tgt : BitVec 6),
    tgt.toNat = (if all then 63 else s.own.val) → (all = false → s.line.responses.length < 2) →
    (∃ t, exec (.clrl src tgt) s = .next t ∧
      (∀ i : Fin 158, (i.val < 80 ∨ 128 ≤ i.val ∧ i.val < 140) →
        (s.cond (pointOf i).1 (pointOf i).2 = false → (tget t.alm.points i).latched = false ∧
          (tget t.alm.points i).reported = false ∧ (tget t.alm.points i).acked = false) ∧
        (s.cond (pointOf i).1 (pointOf i).2 = true → (tget s.alm.points i).latched = true →
          (tget t.alm.points i).latched = true)) ∧
      EventFrame { s with
        peers := s.heardFrom src
        line := s.lineAfter (s.line.responses ++ if all then [] else [⟨src, [10, 0]⟩]) } t) ∧
    (∃ t, exec (.aco src tgt) s = .next t ∧
      (∀ i : Fin 158, (i.val < 80 ∨ 128 ≤ i.val ∧ i.val < 140) → (tget t.alm.points i).reported = true →
        (tget t.alm.points i).severity.rank ≤ (tget s.alm.points i).severity.rank →
        (tget t.alm.points i).acked = true) ∧
      (∀ i : Fin 158, (tget t.alm.points i).reported = false → (tget t.alm.points i).acked = false) ∧
      EventFrame { s with
        peers := s.heardFrom src
        line := s.lineAfter (s.line.responses ++ if all then [] else [⟨src, [11, 0]⟩]) } t)

/-- The checks of R193 in order, with R70 and R71. -/
def Obligations.PswIsCheckedThenTaken : Prop :=
  ∀ (src : Station) (tgt : BitVec 6) (p : Port) (x : Option Spare) (s : State), Takes s src tgt →
    (let kept := fun t : State => ∀ q, (t.prec q).command = (s.prec q).command ∧
       (t.prec q).lockout = (s.prec q).lockout ∧ (t.prec q).selection = (s.prec q).selection
     let wrote := fun (t : State) (c : Command) (l : Bool) =>
       (t.prec p).command = c ∧ (t.prec p).lockout = l ∧ (∀ q, (t.prec q).selection = (s.prec q).selection) ∧
       ∀ q, q ≠ p → (t.prec q).command = (s.prec q).command ∧ (t.prec q).lockout = (s.prec q).lockout
     let off := ∃ sp, x = some sp ∧ s.inMap p sp = false
     let forced := ∃ y, (s.prec p).command = .forced y
     (∀ c, (c = .pswForce src tgt (byte p.val) (spareByte x) ∨ c = .pswManual src tgt (byte p.val) (spareByte x)) →
       (s.used p = false → ∃ t, exec c s = .next t ∧ Answered s s t src [12, 3] ∧ kept t) ∧
       (s.used p = true → off → ∃ t, exec c s = .next t ∧ Answered s s t src [12, 2] ∧ kept t) ∧
       (s.used p = true → ¬off → (s.prec p).lockout = true →
         ∃ t, exec c s = .next t ∧ Answered s s t src [12, 3] ∧ kept t)) ∧
     (s.used p = true → ¬off → (s.prec p).lockout = false →
       (∃ t, exec (.pswForce src tgt (byte p.val) (spareByte x)) s = .next t ∧ Answered s s t src [12, 0] ∧
         wrote t (.forced x) false) ∧
       (s.sf p = true ∨ s.sd p = true ∨ forced →
         ∃ t, exec (.pswManual src tgt (byte p.val) (spareByte x)) s = .next t ∧ Answered s s t src [12, 3] ∧
           kept t) ∧
       (s.sf p = false → s.sd p = false → ¬forced →
         ∃ t, exec (.pswManual src tgt (byte p.val) (spareByte x)) s = .next t ∧ Answered s s t src [12, 0] ∧
           wrote t (.manual x) false)) ∧
     (∀ c, (c = .pswLockout src tgt (byte p.val) ∨ c = .pswClear src tgt (byte p.val)) → s.used p = false →
       ∃ t, exec c s = .next t ∧ Answered s s t src [12, 3] ∧ kept t) ∧
     (s.used p = true →
       (∃ t, exec (.pswLockout src tgt (byte p.val)) s = .next t ∧ Answered s s t src [12, 0] ∧
         wrote t .none true ∧ t.effective p = none) ∧
       (∃ t, exec (.pswClear src tgt (byte p.val)) s = .next t ∧ Answered s s t src [12, 0] ∧
         wrote t .none false)))

/-- R194, with R97 and R98. -/
def Obligations.SpareLockoutMakesAndWithdrawsItsClaim : Prop :=
  ∀ (src : Station) (tgt : BitVec 6) (sp : Spare) (s : State), Takes s src tgt → ∀ on : Bool,
    ∃ t, exec (if on then .slkOn src tgt (byte sp.val) else .slkOff src tgt (byte sp.val)) s = .next t ∧
      Answered s { s with prot := { s.prot with spareLock := tset s.prot.spareLock sp on } } t src [13, 0] ∧
      ((⟨s.own.val, 31, .lockout, true, .own⟩ : ViewEntry) ∈ t.ownClaims sp ↔ on = true) ∧
      (on = true → t.locallyUsable sp = false) ∧
      (on = true → (∀ p k, (t.prec p).claim = some k → k.cls ≠ .lockout) →
        t.announcedOn sp = some ⟨s.own.val, 31, .lockout, true, .own⟩) ∧
      (tget s.prot.spareLock sp ≠ on → t.line.trigger = true)

/-- R140 and R141 as R195 takes them. -/
def Obligations.TrefMovesTheSelection : Prop :=
  ∀ (src : Station) (tgt : BitVec 6) (c : Cand) (s : State), Takes s src tgt →
    (let shows := fun t : State => [(14 : Byte), 0, byte (candCode t.tim.selection), byte t.freq.state.code]
     let bars := (s.cand c).state = .unused ∨ (s.cand c).state = .lockedout
     (bars → ∃ t, exec (.trefForce src tgt (byte (c.val + 1))) s = .next t ∧ Answered s s t src [14, 3]) ∧
     (¬bars → ∃ t, exec (.trefForce src tgt (byte (c.val + 1))) s = .next t ∧
       Answered s { s with tim := { s.tim with force := some c } } t src (shows t) ∧
       t.tim.selection = if (t.cand c).state = .qualified then some c else none) ∧
     (∃ t, exec (.trefClear src tgt) s = .next t ∧
       Answered s { s with tim := { s.tim with force := none } } t src (shows t)) ∧
     ((s.cand c).state = .unused ∨ s.tim.force = some c →
       ∃ t, exec (.trefLockoutOn src tgt (byte (c.val + 1))) s = .next t ∧ Answered s s t src [14, 3]) ∧
     ((s.cand c).state ≠ .unused → s.tim.force ≠ some c →
       ∃ t, exec (.trefLockoutOn src tgt (byte (c.val + 1))) s = .next t ∧ Answered s s t src (shows t) ∧
         (t.cand c).state = .lockedout ∧ t.tim.selection ≠ some c) ∧
     (∃ t, exec (.trefLockoutOff src tgt (byte (c.val + 1))) s = .next t ∧ Answered s s t src (shows t) ∧
       (t.cand c).state ≠ .lockedout ∧
       ((s.cand c).state = .lockedout → (t.cand c).good = 0 ∧
         (t.cand c).state = if (t.cand c).sigFail then .failed else .qualifying)))

/-- R120 to R123 as R196 takes them. A STOP with Enable clear and no step in flight stops a step timer that still runs
(log 23). -/
def Obligations.SweepRequestsSetAndStepTheDescriptor : Prop :=
  ∀ (src : Station) (tgt : BitVec 6) (s : State), Takes s src tgt →
    (s.exr.step = none → ∀ (sp : Spare) (n : Fin 17) (cont : Bool) (first : Option Port),
      (let firstByte := byte ((first.map (·.val)).getD 255)
       let next := first.getD s.exr.nextPort
       (s.exr.enable = true → ∀ m : Bool, ∃ t,
         exec (.swpStart src tgt (byte sp.val) (byte m.toNat) (byte n.val) (byte cont.toNat) firstByte) s = .next t ∧
         Answered s s t src [15, 1] ∧ t.exr = s.exr) ∧
       (s.exr.enable = false → ∃ t,
         exec (.swpStart src tgt (byte sp.val) 0 (byte n.val) (byte cont.toNat) firstByte) s = .next t ∧
         Answered s s t src [15, 0] ∧
         t.exr = { s.exr with
           spare := sp, mode := .paced, continuous := cont, remaining := if n.val = 0 then 16 else n.val
           nextPort := next, enable := true, stepTimer := none }) ∧
       (s.exr.enable = false → s.used next = false → ∃ t,
         exec (.swpStart src tgt (byte sp.val) 1 (byte n.val) (byte cont.toNat) firstByte) s = .next t ∧
         Answered s s t src [15, 0] ∧
         tget t.exr.results next =
           { tget s.exr.results next with result := .skipped, seconds := s.freq.seconds } ∧
         t.exr.nextPort = next + 1))) ∧
    (s.exr.step = none → (s.exr.enable = false ∨ s.exr.mode = .free) →
      ∃ t, exec (.swpStep src tgt) s = .next t ∧ Answered s s t src [15, 3] ∧ t.exr = s.exr) ∧
    (s.exr.step = none → s.exr.enable = true → s.exr.mode = .paced → s.used s.exr.nextPort = false →
      ∃ t, exec (.swpStep src tgt) s = .next t ∧ Answered s s t src [15, 0, 3, byte s.exr.nextPort.val] ∧
        tget t.exr.results s.exr.nextPort =
          { tget s.exr.results s.exr.nextPort with result := .skipped, seconds := s.freq.seconds } ∧
        t.exr.nextPort = s.exr.nextPort + 1) ∧
    (s.exr.enable = true → s.exr.mode = .paced → QuietBut s s.exr.nextPort →
      (s.prec s.exr.nextPort).state = .idle → (s.prec s.exr.nextPort).claim = none →
      s.standing s.exr.nextPort = none → (s.prec s.exr.nextPort).lockout = false →
      s.used s.exr.nextPort = true → s.inMap s.exr.nextPort s.exr.spare = true →
      s.usableFor s.exr.nextPort s.exr.spare = true → s.viewOf s.exr.spare = [] →
      ∃ t, exec (.swpStep src tgt) s = .next t ∧ Answered s s t src [15, 0, 1, byte s.exr.nextPort.val] ∧
        t.exr = { s.exr with step := some ⟨.window, some false, some 8, false, none⟩ } ∧ t.line.trigger = true) ∧
    (s.exr.step = none → ∃ t, exec (.swpStop src tgt) s = .next t ∧ Answered s s t src [15, 0] ∧
      t.exr = { s.exr with enable := false, stepTimer := none }) ∧
    (∀ w f e, s.exr.step = some ⟨.window, some false, w, f, e⟩ →
      QuietBut { s with exr := { s.exr with step := none } } s.exr.nextPort →
      (s.prec s.exr.nextPort).state = .idle → (s.prec s.exr.nextPort).claim = none →
      s.standing s.exr.nextPort = none → (s.prec s.exr.nextPort).lockout = false →
      s.usableFor s.exr.nextPort s.exr.spare = true → s.peerView s.exr.spare = [] →
      ∃ t, exec (.swpStop src tgt) s = .next t ∧ Answered s s t src [15, 0] ∧
        t.exr = { s.exr with enable := false, stepTimer := none, step := none } ∧ t.line.trigger = true)

/-- R197, whole. -/
def Obligations.PairClearForgives : Prop :=
  ∀ (src : Station) (tgt : BitVec 6) (p : Port) (sp : Spare) (s : State), Takes s src tgt →
    ∃ t, exec (.pairClear src tgt (byte p.val) (byte sp.val)) s = .next t ∧ Answered s s t src [16, 0] ∧
      t.pair p sp = ⟨false, 0, none⟩ ∧ (t.dport p).mark = false ∧
      (∀ q x, (q ≠ p ∨ x ≠ sp) → t.pair q x = s.pair q x) ∧
      ∀ q, q ≠ p → (t.dport q).mark = (s.dport q).mark

end
end

