-- ==== Sys2Proof/Laws/State.lean ====
section
/-! SUPPORT. One lemma per field of State for each named update, so that no later proof unfolds one. -/

namespace Sys2Proof.Machine

/-! ## Timers -/

theorem ranOut_iff (t : Option Nat) : ranOut t = true ↔ t = some 0 := by simp [ranOut]
@[simp] theorem ranOut_none : ranOut none = false := rfl
@[simp] theorem ranOut_zero : ranOut (some 0) = true := rfl
theorem ranOut_eq_false (t : Option Nat) : ranOut t = false ↔ t ≠ some 0 := by simp [ranOut]
theorem due_iff (r : PeerRec) : r.due = true ↔ r.present = true ∧ 200 ≤ r.age.getD 0 := by simp [PeerRec.due]
/-- A frame taken first leaves no expiry (R55). -/
@[simp] theorem due_fresh (r : PeerRec) : ({ r with age := some 0 } : PeerRec).due = false := by simp [PeerRec.due]


/-! ## setPrec -/

@[simp] theorem setPrec_pending (s : State) (p : Port) (r : PortRec) : (s.setPrec p r).pending = s.pending := rfl
@[simp] theorem setPrec_straps (s : State) (p : Port) (r : PortRec) : (s.setPrec p r).straps = s.straps := rfl
@[simp] theorem setPrec_phase (s : State) (p : Port) (r : PortRec) : (s.setPrec p r).phase = s.phase := rfl
@[simp] theorem setPrec_loadTimer (s : State) (p : Port) (r : PortRec) : (s.setPrec p r).loadTimer = s.loadTimer := rfl
@[simp] theorem setPrec_listenTimer (s : State) (p : Port) (r : PortRec) : (s.setPrec p r).listenTimer = s.listenTimer := rfl
@[simp] theorem setPrec_config (s : State) (p : Port) (r : PortRec) : (s.setPrec p r).config = s.config := rfl
@[simp] theorem setPrec_cfgdef (s : State) (p : Port) (r : PortRec) : (s.setPrec p r).cfgdef = s.cfgdef := rfl
@[simp] theorem setPrec_restartPending (s : State) (p : Port) (r : PortRec) : (s.setPrec p r).restartPending = s.restartPending := rfl
@[simp] theorem setPrec_scan (s : State) (p : Port) (r : PortRec) : (s.setPrec p r).scan = s.scan := rfl
@[simp] theorem setPrec_dec (s : State) (p : Port) (r : PortRec) : (s.setPrec p r).dec = s.dec := rfl
@[simp] theorem setPrec_cap (s : State) (p : Port) (r : PortRec) : (s.setPrec p r).cap = s.cap := rfl
@[simp] theorem setPrec_line (s : State) (p : Port) (r : PortRec) : (s.setPrec p r).line = s.line := rfl
@[simp] theorem setPrec_peers (s : State) (p : Port) (r : PortRec) : (s.setPrec p r).peers = s.peers := rfl
@[simp] theorem setPrec_drv (s : State) (p : Port) (r : PortRec) : (s.setPrec p r).drv = s.drv := rfl
@[simp] theorem setPrec_exr (s : State) (p : Port) (r : PortRec) : (s.setPrec p r).exr = s.exr := rfl
@[simp] theorem setPrec_tim (s : State) (p : Port) (r : PortRec) : (s.setPrec p r).tim = s.tim := rfl
@[simp] theorem setPrec_freq (s : State) (p : Port) (r : PortRec) : (s.setPrec p r).freq = s.freq := rfl
@[simp] theorem setPrec_alm (s : State) (p : Port) (r : PortRec) : (s.setPrec p r).alm = s.alm := rfl
@[simp] theorem setPrec_same (s : State) (p : Port) (r : PortRec) : (s.setPrec p r).prec p = r := by simp [State.prec, State.setPrec]
theorem setPrec_prec (s : State) (p q : Port) (r : PortRec) :
    (s.setPrec p r).prec q = if p = q then r else s.prec q := by simp [State.prec, State.setPrec, tget_tset]
@[simp] theorem setPrec_spareLock (s : State) (p : Port) (r : PortRec) : (s.setPrec p r).prot.spareLock = s.prot.spareLock := rfl
@[simp] theorem setPrec_demands (s : State) (p : Port) (r : PortRec) : (s.setPrec p r).prot.demands = s.prot.demands := rfl

/-! ## updRec -/

@[simp] theorem updRec_pending (s : State) (p : Port) (f : PortRec → PortRec) : (updRec s p f).pending = s.pending := rfl
@[simp] theorem updRec_straps (s : State) (p : Port) (f : PortRec → PortRec) : (updRec s p f).straps = s.straps := rfl
@[simp] theorem updRec_phase (s : State) (p : Port) (f : PortRec → PortRec) : (updRec s p f).phase = s.phase := rfl
@[simp] theorem updRec_loadTimer (s : State) (p : Port) (f : PortRec → PortRec) : (updRec s p f).loadTimer = s.loadTimer := rfl
@[simp] theorem updRec_listenTimer (s : State) (p : Port) (f : PortRec → PortRec) : (updRec s p f).listenTimer = s.listenTimer := rfl
@[simp] theorem updRec_config (s : State) (p : Port) (f : PortRec → PortRec) : (updRec s p f).config = s.config := rfl
@[simp] theorem updRec_cfgdef (s : State) (p : Port) (f : PortRec → PortRec) : (updRec s p f).cfgdef = s.cfgdef := rfl
@[simp] theorem updRec_restartPending (s : State) (p : Port) (f : PortRec → PortRec) : (updRec s p f).restartPending = s.restartPending := rfl
@[simp] theorem updRec_scan (s : State) (p : Port) (f : PortRec → PortRec) : (updRec s p f).scan = s.scan := rfl
@[simp] theorem updRec_dec (s : State) (p : Port) (f : PortRec → PortRec) : (updRec s p f).dec = s.dec := rfl
@[simp] theorem updRec_cap (s : State) (p : Port) (f : PortRec → PortRec) : (updRec s p f).cap = s.cap := rfl
@[simp] theorem updRec_line (s : State) (p : Port) (f : PortRec → PortRec) : (updRec s p f).line = s.line := rfl
@[simp] theorem updRec_peers (s : State) (p : Port) (f : PortRec → PortRec) : (updRec s p f).peers = s.peers := rfl
@[simp] theorem updRec_drv (s : State) (p : Port) (f : PortRec → PortRec) : (updRec s p f).drv = s.drv := rfl
@[simp] theorem updRec_exr (s : State) (p : Port) (f : PortRec → PortRec) : (updRec s p f).exr = s.exr := rfl
@[simp] theorem updRec_tim (s : State) (p : Port) (f : PortRec → PortRec) : (updRec s p f).tim = s.tim := rfl
@[simp] theorem updRec_freq (s : State) (p : Port) (f : PortRec → PortRec) : (updRec s p f).freq = s.freq := rfl
@[simp] theorem updRec_alm (s : State) (p : Port) (f : PortRec → PortRec) : (updRec s p f).alm = s.alm := rfl
theorem updRec_prec (s : State) (p q : Port) (f : PortRec → PortRec) :
    (updRec s p f).prec q = if p = q then f (s.prec q) else s.prec q := by
  unfold updRec; rw [setPrec_prec]; split <;> simp_all
@[simp] theorem updRec_spareLock (s : State) (p : Port) (f : PortRec → PortRec) : (updRec s p f).prot.spareLock = s.prot.spareLock := rfl
@[simp] theorem updRec_demands (s : State) (p : Port) (f : PortRec → PortRec) : (updRec s p f).prot.demands = s.prot.demands := rfl

/-! ## setDport -/

@[simp] theorem setDport_pending (s : State) (p : Port) (d : PortDrv) : (s.setDport p d).pending = s.pending := rfl
@[simp] theorem setDport_straps (s : State) (p : Port) (d : PortDrv) : (s.setDport p d).straps = s.straps := rfl
@[simp] theorem setDport_phase (s : State) (p : Port) (d : PortDrv) : (s.setDport p d).phase = s.phase := rfl
@[simp] theorem setDport_loadTimer (s : State) (p : Port) (d : PortDrv) : (s.setDport p d).loadTimer = s.loadTimer := rfl
@[simp] theorem setDport_listenTimer (s : State) (p : Port) (d : PortDrv) : (s.setDport p d).listenTimer = s.listenTimer := rfl
@[simp] theorem setDport_config (s : State) (p : Port) (d : PortDrv) : (s.setDport p d).config = s.config := rfl
@[simp] theorem setDport_cfgdef (s : State) (p : Port) (d : PortDrv) : (s.setDport p d).cfgdef = s.cfgdef := rfl
@[simp] theorem setDport_restartPending (s : State) (p : Port) (d : PortDrv) : (s.setDport p d).restartPending = s.restartPending := rfl
@[simp] theorem setDport_scan (s : State) (p : Port) (d : PortDrv) : (s.setDport p d).scan = s.scan := rfl
@[simp] theorem setDport_dec (s : State) (p : Port) (d : PortDrv) : (s.setDport p d).dec = s.dec := rfl
@[simp] theorem setDport_cap (s : State) (p : Port) (d : PortDrv) : (s.setDport p d).cap = s.cap := rfl
@[simp] theorem setDport_line (s : State) (p : Port) (d : PortDrv) : (s.setDport p d).line = s.line := rfl
@[simp] theorem setDport_peers (s : State) (p : Port) (d : PortDrv) : (s.setDport p d).peers = s.peers := rfl
@[simp] theorem setDport_prot (s : State) (p : Port) (d : PortDrv) : (s.setDport p d).prot = s.prot := rfl
@[simp] theorem setDport_exr (s : State) (p : Port) (d : PortDrv) : (s.setDport p d).exr = s.exr := rfl
@[simp] theorem setDport_tim (s : State) (p : Port) (d : PortDrv) : (s.setDport p d).tim = s.tim := rfl
@[simp] theorem setDport_freq (s : State) (p : Port) (d : PortDrv) : (s.setDport p d).freq = s.freq := rfl
@[simp] theorem setDport_alm (s : State) (p : Port) (d : PortDrv) : (s.setDport p d).alm = s.alm := rfl
@[simp] theorem setDport_same (s : State) (p : Port) (d : PortDrv) : (s.setDport p d).dport p = d := by simp [State.dport, State.setDport]
theorem setDport_dport (s : State) (p q : Port) (d : PortDrv) :
    (s.setDport p d).dport q = if p = q then d else s.dport q := by simp [State.dport, State.setDport, tget_tset]
@[simp] theorem setDport_inFlight (s : State) (p : Port) (d : PortDrv) : (s.setDport p d).drv.inFlight = s.drv.inFlight := rfl

/-! ## setPair -/

@[simp] theorem setPair_pending (s : State) (p : Port) (sp : Spare) (x : Pair) : (s.setPair p sp x).pending = s.pending := rfl
@[simp] theorem setPair_straps (s : State) (p : Port) (sp : Spare) (x : Pair) : (s.setPair p sp x).straps = s.straps := rfl
@[simp] theorem setPair_phase (s : State) (p : Port) (sp : Spare) (x : Pair) : (s.setPair p sp x).phase = s.phase := rfl
@[simp] theorem setPair_loadTimer (s : State) (p : Port) (sp : Spare) (x : Pair) : (s.setPair p sp x).loadTimer = s.loadTimer := rfl
@[simp] theorem setPair_listenTimer (s : State) (p : Port) (sp : Spare) (x : Pair) : (s.setPair p sp x).listenTimer = s.listenTimer := rfl
@[simp] theorem setPair_config (s : State) (p : Port) (sp : Spare) (x : Pair) : (s.setPair p sp x).config = s.config := rfl
@[simp] theorem setPair_cfgdef (s : State) (p : Port) (sp : Spare) (x : Pair) : (s.setPair p sp x).cfgdef = s.cfgdef := rfl
@[simp] theorem setPair_restartPending (s : State) (p : Port) (sp : Spare) (x : Pair) : (s.setPair p sp x).restartPending = s.restartPending := rfl
@[simp] theorem setPair_scan (s : State) (p : Port) (sp : Spare) (x : Pair) : (s.setPair p sp x).scan = s.scan := rfl
@[simp] theorem setPair_dec (s : State) (p : Port) (sp : Spare) (x : Pair) : (s.setPair p sp x).dec = s.dec := rfl
@[simp] theorem setPair_cap (s : State) (p : Port) (sp : Spare) (x : Pair) : (s.setPair p sp x).cap = s.cap := rfl
@[simp] theorem setPair_line (s : State) (p : Port) (sp : Spare) (x : Pair) : (s.setPair p sp x).line = s.line := rfl
@[simp] theorem setPair_peers (s : State) (p : Port) (sp : Spare) (x : Pair) : (s.setPair p sp x).peers = s.peers := rfl
@[simp] theorem setPair_prot (s : State) (p : Port) (sp : Spare) (x : Pair) : (s.setPair p sp x).prot = s.prot := rfl
@[simp] theorem setPair_exr (s : State) (p : Port) (sp : Spare) (x : Pair) : (s.setPair p sp x).exr = s.exr := rfl
@[simp] theorem setPair_tim (s : State) (p : Port) (sp : Spare) (x : Pair) : (s.setPair p sp x).tim = s.tim := rfl
@[simp] theorem setPair_freq (s : State) (p : Port) (sp : Spare) (x : Pair) : (s.setPair p sp x).freq = s.freq := rfl
@[simp] theorem setPair_alm (s : State) (p : Port) (sp : Spare) (x : Pair) : (s.setPair p sp x).alm = s.alm := rfl
@[simp] theorem setPair_same (s : State) (p : Port) (sp : Spare) (x : Pair) : (s.setPair p sp x).pair p sp = x := by
  simp [State.pair, State.setPair]

/-! ## setPeer -/

@[simp] theorem setPeer_pending (s : State) (n : Station) (r : PeerRec) : (s.setPeer n r).pending = s.pending := rfl
@[simp] theorem setPeer_straps (s : State) (n : Station) (r : PeerRec) : (s.setPeer n r).straps = s.straps := rfl
@[simp] theorem setPeer_phase (s : State) (n : Station) (r : PeerRec) : (s.setPeer n r).phase = s.phase := rfl
@[simp] theorem setPeer_loadTimer (s : State) (n : Station) (r : PeerRec) : (s.setPeer n r).loadTimer = s.loadTimer := rfl
@[simp] theorem setPeer_listenTimer (s : State) (n : Station) (r : PeerRec) : (s.setPeer n r).listenTimer = s.listenTimer := rfl
@[simp] theorem setPeer_config (s : State) (n : Station) (r : PeerRec) : (s.setPeer n r).config = s.config := rfl
@[simp] theorem setPeer_cfgdef (s : State) (n : Station) (r : PeerRec) : (s.setPeer n r).cfgdef = s.cfgdef := rfl
@[simp] theorem setPeer_restartPending (s : State) (n : Station) (r : PeerRec) : (s.setPeer n r).restartPending = s.restartPending := rfl
@[simp] theorem setPeer_scan (s : State) (n : Station) (r : PeerRec) : (s.setPeer n r).scan = s.scan := rfl
@[simp] theorem setPeer_dec (s : State) (n : Station) (r : PeerRec) : (s.setPeer n r).dec = s.dec := rfl
@[simp] theorem setPeer_cap (s : State) (n : Station) (r : PeerRec) : (s.setPeer n r).cap = s.cap := rfl
@[simp] theorem setPeer_line (s : State) (n : Station) (r : PeerRec) : (s.setPeer n r).line = s.line := rfl
@[simp] theorem setPeer_prot (s : State) (n : Station) (r : PeerRec) : (s.setPeer n r).prot = s.prot := rfl
@[simp] theorem setPeer_drv (s : State) (n : Station) (r : PeerRec) : (s.setPeer n r).drv = s.drv := rfl
@[simp] theorem setPeer_exr (s : State) (n : Station) (r : PeerRec) : (s.setPeer n r).exr = s.exr := rfl
@[simp] theorem setPeer_tim (s : State) (n : Station) (r : PeerRec) : (s.setPeer n r).tim = s.tim := rfl
@[simp] theorem setPeer_freq (s : State) (n : Station) (r : PeerRec) : (s.setPeer n r).freq = s.freq := rfl
@[simp] theorem setPeer_alm (s : State) (n : Station) (r : PeerRec) : (s.setPeer n r).alm = s.alm := rfl
@[simp] theorem setPeer_same (s : State) (n : Station) (r : PeerRec) : (s.setPeer n r).peer n = r := by simp [State.peer, State.setPeer]
theorem setPeer_peer (s : State) (n m : Station) (r : PeerRec) :
    (s.setPeer n r).peer m = if n = m then r else s.peer m := by simp [State.peer, State.setPeer, tget_tset]

/-! ## setCand -/

@[simp] theorem setCand_pending (s : State) (c : Cand) (r : CandRec) : (s.setCand c r).pending = s.pending := rfl
@[simp] theorem setCand_straps (s : State) (c : Cand) (r : CandRec) : (s.setCand c r).straps = s.straps := rfl
@[simp] theorem setCand_phase (s : State) (c : Cand) (r : CandRec) : (s.setCand c r).phase = s.phase := rfl
@[simp] theorem setCand_loadTimer (s : State) (c : Cand) (r : CandRec) : (s.setCand c r).loadTimer = s.loadTimer := rfl
@[simp] theorem setCand_listenTimer (s : State) (c : Cand) (r : CandRec) : (s.setCand c r).listenTimer = s.listenTimer := rfl
@[simp] theorem setCand_config (s : State) (c : Cand) (r : CandRec) : (s.setCand c r).config = s.config := rfl
@[simp] theorem setCand_cfgdef (s : State) (c : Cand) (r : CandRec) : (s.setCand c r).cfgdef = s.cfgdef := rfl
@[simp] theorem setCand_restartPending (s : State) (c : Cand) (r : CandRec) : (s.setCand c r).restartPending = s.restartPending := rfl
@[simp] theorem setCand_scan (s : State) (c : Cand) (r : CandRec) : (s.setCand c r).scan = s.scan := rfl
@[simp] theorem setCand_dec (s : State) (c : Cand) (r : CandRec) : (s.setCand c r).dec = s.dec := rfl
@[simp] theorem setCand_cap (s : State) (c : Cand) (r : CandRec) : (s.setCand c r).cap = s.cap := rfl
@[simp] theorem setCand_line (s : State) (c : Cand) (r : CandRec) : (s.setCand c r).line = s.line := rfl
@[simp] theorem setCand_peers (s : State) (c : Cand) (r : CandRec) : (s.setCand c r).peers = s.peers := rfl
@[simp] theorem setCand_prot (s : State) (c : Cand) (r : CandRec) : (s.setCand c r).prot = s.prot := rfl
@[simp] theorem setCand_drv (s : State) (c : Cand) (r : CandRec) : (s.setCand c r).drv = s.drv := rfl
@[simp] theorem setCand_exr (s : State) (c : Cand) (r : CandRec) : (s.setCand c r).exr = s.exr := rfl
@[simp] theorem setCand_freq (s : State) (c : Cand) (r : CandRec) : (s.setCand c r).freq = s.freq := rfl
@[simp] theorem setCand_alm (s : State) (c : Cand) (r : CandRec) : (s.setCand c r).alm = s.alm := rfl
@[simp] theorem setCand_same (s : State) (c : Cand) (r : CandRec) : (s.setCand c r).cand c = r := by simp [State.cand, State.setCand]
theorem setCand_cand (s : State) (c d : Cand) (r : CandRec) :
    (s.setCand c r).cand d = if c = d then r else s.cand d := by simp [State.cand, State.setCand, tget_tset]

/-! ## requestTrigger -/

@[simp] theorem requestTrigger_pending (s : State) : (requestTrigger s).pending = s.pending := by
  unfold requestTrigger; split <;> rfl
@[simp] theorem requestTrigger_straps (s : State) : (requestTrigger s).straps = s.straps := by
  unfold requestTrigger; split <;> rfl
@[simp] theorem requestTrigger_phase (s : State) : (requestTrigger s).phase = s.phase := by
  unfold requestTrigger; split <;> rfl
@[simp] theorem requestTrigger_loadTimer (s : State) : (requestTrigger s).loadTimer = s.loadTimer := by
  unfold requestTrigger; split <;> rfl
@[simp] theorem requestTrigger_listenTimer (s : State) : (requestTrigger s).listenTimer = s.listenTimer := by
  unfold requestTrigger; split <;> rfl
@[simp] theorem requestTrigger_config (s : State) : (requestTrigger s).config = s.config := by
  unfold requestTrigger; split <;> rfl
@[simp] theorem requestTrigger_cfgdef (s : State) : (requestTrigger s).cfgdef = s.cfgdef := by
  unfold requestTrigger; split <;> rfl
@[simp] theorem requestTrigger_restartPending (s : State) : (requestTrigger s).restartPending = s.restartPending := by
  unfold requestTrigger; split <;> rfl
@[simp] theorem requestTrigger_scan (s : State) : (requestTrigger s).scan = s.scan := by
  unfold requestTrigger; split <;> rfl
@[simp] theorem requestTrigger_dec (s : State) : (requestTrigger s).dec = s.dec := by
  unfold requestTrigger; split <;> rfl
@[simp] theorem requestTrigger_cap (s : State) : (requestTrigger s).cap = s.cap := by
  unfold requestTrigger; split <;> rfl
@[simp] theorem requestTrigger_peers (s : State) : (requestTrigger s).peers = s.peers := by
  unfold requestTrigger; split <;> rfl
@[simp] theorem requestTrigger_prot (s : State) : (requestTrigger s).prot = s.prot := by
  unfold requestTrigger; split <;> rfl
@[simp] theorem requestTrigger_drv (s : State) : (requestTrigger s).drv = s.drv := by
  unfold requestTrigger; split <;> rfl
@[simp] theorem requestTrigger_exr (s : State) : (requestTrigger s).exr = s.exr := by
  unfold requestTrigger; split <;> rfl
@[simp] theorem requestTrigger_tim (s : State) : (requestTrigger s).tim = s.tim := by
  unfold requestTrigger; split <;> rfl
@[simp] theorem requestTrigger_freq (s : State) : (requestTrigger s).freq = s.freq := by
  unfold requestTrigger; split <;> rfl
@[simp] theorem requestTrigger_alm (s : State) : (requestTrigger s).alm = s.alm := by
  unfold requestTrigger; split <;> rfl

/-! ## triggerIf -/

@[simp] theorem triggerIf_pending (b : Bool) (s : State) : (triggerIf b s).pending = s.pending := by
  unfold triggerIf; split <;> simp
@[simp] theorem triggerIf_straps (b : Bool) (s : State) : (triggerIf b s).straps = s.straps := by
  unfold triggerIf; split <;> simp
@[simp] theorem triggerIf_phase (b : Bool) (s : State) : (triggerIf b s).phase = s.phase := by
  unfold triggerIf; split <;> simp
@[simp] theorem triggerIf_loadTimer (b : Bool) (s : State) : (triggerIf b s).loadTimer = s.loadTimer := by
  unfold triggerIf; split <;> simp
@[simp] theorem triggerIf_listenTimer (b : Bool) (s : State) : (triggerIf b s).listenTimer = s.listenTimer := by
  unfold triggerIf; split <;> simp
@[simp] theorem triggerIf_config (b : Bool) (s : State) : (triggerIf b s).config = s.config := by
  unfold triggerIf; split <;> simp
@[simp] theorem triggerIf_cfgdef (b : Bool) (s : State) : (triggerIf b s).cfgdef = s.cfgdef := by
  unfold triggerIf; split <;> simp
@[simp] theorem triggerIf_restartPending (b : Bool) (s : State) : (triggerIf b s).restartPending = s.restartPending := by
  unfold triggerIf; split <;> simp
@[simp] theorem triggerIf_scan (b : Bool) (s : State) : (triggerIf b s).scan = s.scan := by
  unfold triggerIf; split <;> simp
@[simp] theorem triggerIf_dec (b : Bool) (s : State) : (triggerIf b s).dec = s.dec := by
  unfold triggerIf; split <;> simp
@[simp] theorem triggerIf_cap (b : Bool) (s : State) : (triggerIf b s).cap = s.cap := by
  unfold triggerIf; split <;> simp
@[simp] theorem triggerIf_peers (b : Bool) (s : State) : (triggerIf b s).peers = s.peers := by
  unfold triggerIf; split <;> simp
@[simp] theorem triggerIf_prot (b : Bool) (s : State) : (triggerIf b s).prot = s.prot := by
  unfold triggerIf; split <;> simp
@[simp] theorem triggerIf_drv (b : Bool) (s : State) : (triggerIf b s).drv = s.drv := by
  unfold triggerIf; split <;> simp
@[simp] theorem triggerIf_exr (b : Bool) (s : State) : (triggerIf b s).exr = s.exr := by
  unfold triggerIf; split <;> simp
@[simp] theorem triggerIf_tim (b : Bool) (s : State) : (triggerIf b s).tim = s.tim := by
  unfold triggerIf; split <;> simp
@[simp] theorem triggerIf_freq (b : Bool) (s : State) : (triggerIf b s).freq = s.freq := by
  unfold triggerIf; split <;> simp
@[simp] theorem triggerIf_alm (b : Bool) (s : State) : (triggerIf b s).alm = s.alm := by
  unfold triggerIf; split <;> simp

/-! ## protectionPart -/

@[simp] theorem protectionPart_pending (s t : State) : (protectionPart s t).pending = s.pending := rfl
@[simp] theorem protectionPart_straps (s t : State) : (protectionPart s t).straps = s.straps := rfl
@[simp] theorem protectionPart_phase (s t : State) : (protectionPart s t).phase = s.phase := rfl
@[simp] theorem protectionPart_loadTimer (s t : State) : (protectionPart s t).loadTimer = s.loadTimer := rfl
@[simp] theorem protectionPart_listenTimer (s t : State) : (protectionPart s t).listenTimer = s.listenTimer := rfl
@[simp] theorem protectionPart_config (s t : State) : (protectionPart s t).config = s.config := rfl
@[simp] theorem protectionPart_cfgdef (s t : State) : (protectionPart s t).cfgdef = s.cfgdef := rfl
@[simp] theorem protectionPart_restartPending (s t : State) : (protectionPart s t).restartPending = s.restartPending := rfl
@[simp] theorem protectionPart_scan (s t : State) : (protectionPart s t).scan = s.scan := rfl
@[simp] theorem protectionPart_dec (s t : State) : (protectionPart s t).dec = s.dec := rfl
@[simp] theorem protectionPart_cap (s t : State) : (protectionPart s t).cap = s.cap := rfl
@[simp] theorem protectionPart_peers (s t : State) : (protectionPart s t).peers = s.peers := rfl
@[simp] theorem protectionPart_tim (s t : State) : (protectionPart s t).tim = s.tim := rfl
@[simp] theorem protectionPart_freq (s t : State) : (protectionPart s t).freq = s.freq := rfl
@[simp] theorem protectionPart_alm (s t : State) : (protectionPart s t).alm = s.alm := rfl
@[simp] theorem protectionPart_recs (s t : State) : (protectionPart s t).prot.recs = t.prot.recs := rfl
@[simp] theorem protectionPart_spareLock (s t : State) : (protectionPart s t).prot.spareLock = s.prot.spareLock := rfl
@[simp] theorem protectionPart_drv (s t : State) : (protectionPart s t).drv = t.drv := rfl
@[simp] theorem protectionPart_exr (s t : State) : (protectionPart s t).exr = t.exr := rfl

/-! ## requestPart -/

@[simp] theorem requestPart_pending (s t : State) : (requestPart s t).pending = s.pending := rfl
@[simp] theorem requestPart_straps (s t : State) : (requestPart s t).straps = s.straps := rfl
@[simp] theorem requestPart_phase (s t : State) : (requestPart s t).phase = s.phase := rfl
@[simp] theorem requestPart_loadTimer (s t : State) : (requestPart s t).loadTimer = s.loadTimer := rfl
@[simp] theorem requestPart_listenTimer (s t : State) : (requestPart s t).listenTimer = s.listenTimer := rfl
@[simp] theorem requestPart_config (s t : State) : (requestPart s t).config = s.config := rfl
@[simp] theorem requestPart_cfgdef (s t : State) : (requestPart s t).cfgdef = s.cfgdef := rfl
@[simp] theorem requestPart_restartPending (s t : State) : (requestPart s t).restartPending = s.restartPending := rfl
@[simp] theorem requestPart_scan (s t : State) : (requestPart s t).scan = s.scan := rfl
@[simp] theorem requestPart_dec (s t : State) : (requestPart s t).dec = s.dec := rfl
@[simp] theorem requestPart_cap (s t : State) : (requestPart s t).cap = s.cap := rfl
@[simp] theorem requestPart_peers (s t : State) : (requestPart s t).peers = s.peers := rfl
@[simp] theorem requestPart_tim (s t : State) : (requestPart s t).tim = s.tim := rfl
@[simp] theorem requestPart_freq (s t : State) : (requestPart s t).freq = s.freq := rfl
@[simp] theorem requestPart_alm (s t : State) : (requestPart s t).alm = s.alm := rfl

/-! ## actuationPart -/

@[simp] theorem actuationPart_pending (s t : State) : (actuationPart s t).pending = s.pending := rfl
@[simp] theorem actuationPart_straps (s t : State) : (actuationPart s t).straps = s.straps := rfl
@[simp] theorem actuationPart_phase (s t : State) : (actuationPart s t).phase = s.phase := rfl
@[simp] theorem actuationPart_loadTimer (s t : State) : (actuationPart s t).loadTimer = s.loadTimer := rfl
@[simp] theorem actuationPart_listenTimer (s t : State) : (actuationPart s t).listenTimer = s.listenTimer := rfl
@[simp] theorem actuationPart_config (s t : State) : (actuationPart s t).config = s.config := rfl
@[simp] theorem actuationPart_cfgdef (s t : State) : (actuationPart s t).cfgdef = s.cfgdef := rfl
@[simp] theorem actuationPart_restartPending (s t : State) : (actuationPart s t).restartPending = s.restartPending := rfl
@[simp] theorem actuationPart_dec (s t : State) : (actuationPart s t).dec = s.dec := rfl
@[simp] theorem actuationPart_cap (s t : State) : (actuationPart s t).cap = s.cap := rfl
@[simp] theorem actuationPart_peers (s t : State) : (actuationPart s t).peers = s.peers := rfl
@[simp] theorem actuationPart_freq (s t : State) : (actuationPart s t).freq = s.freq := rfl
@[simp] theorem actuationPart_alm (s t : State) : (actuationPart s t).alm = s.alm := rfl

/-! ## timingPart -/

@[simp] theorem timingPart_pending (s t : State) : (timingPart s t).pending = s.pending := rfl
@[simp] theorem timingPart_straps (s t : State) : (timingPart s t).straps = s.straps := rfl
@[simp] theorem timingPart_phase (s t : State) : (timingPart s t).phase = s.phase := rfl
@[simp] theorem timingPart_loadTimer (s t : State) : (timingPart s t).loadTimer = s.loadTimer := rfl
@[simp] theorem timingPart_listenTimer (s t : State) : (timingPart s t).listenTimer = s.listenTimer := rfl
@[simp] theorem timingPart_config (s t : State) : (timingPart s t).config = s.config := rfl
@[simp] theorem timingPart_cfgdef (s t : State) : (timingPart s t).cfgdef = s.cfgdef := rfl
@[simp] theorem timingPart_restartPending (s t : State) : (timingPart s t).restartPending = s.restartPending := rfl
@[simp] theorem timingPart_scan (s t : State) : (timingPart s t).scan = s.scan := rfl
@[simp] theorem timingPart_dec (s t : State) : (timingPart s t).dec = s.dec := rfl
@[simp] theorem timingPart_cap (s t : State) : (timingPart s t).cap = s.cap := rfl
@[simp] theorem timingPart_peers (s t : State) : (timingPart s t).peers = s.peers := rfl
@[simp] theorem timingPart_prot (s t : State) : (timingPart s t).prot = s.prot := rfl
@[simp] theorem timingPart_drv (s t : State) : (timingPart s t).drv = s.drv := rfl
@[simp] theorem timingPart_exr (s t : State) : (timingPart s t).exr = s.exr := rfl
@[simp] theorem timingPart_alm (s t : State) : (timingPart s t).alm = s.alm := rfl
@[simp] theorem timingPart_force (s t : State) : (timingPart s t).tim.force = s.tim.force := rfl
@[simp] theorem timingPart_selection (s t : State) : (timingPart s t).tim.selection = t.tim.selection := rfl
@[simp] theorem timingPart_cands (s t : State) : (timingPart s t).tim.cands = t.tim.cands := rfl

/-! ## The trigger request -/

/-- A trigger request changes the trigger and the class of a frame in hand, and nothing else of the line (R45). -/
theorem requestTrigger_line_rest (s : State) :
    { (requestTrigger s).line with trigger := s.line.trigger, inHand := s.line.inHand } = s.line := by
  unfold requestTrigger; split <;> rfl

/-- The frame in hand itself is not changed by a trigger request (R45). -/
theorem requestTrigger_inHand (s : State) :
    (requestTrigger s).line.inHand.map (·.frame) = s.line.inHand.map (·.frame) := by
  unfold requestTrigger
  split
  · simp only [BayLine.trig]
    split
    · cases s.line.inHand with
      | none => rfl
      | some h => simp only [Option.map_some]; split <;> rfl
    · rfl
  · rfl

@[simp] theorem requestTrigger_running (s : State) : (requestTrigger s).running = s.running := by
  simp [State.running]

@[simp] theorem triggerIf_running (b : Bool) (s : State) : (triggerIf b s).running = s.running := by
  simp [State.running]

end Sys2Proof.Machine
end

