-- ==== Sys2Proof/Laws/Events.lean ====
section
/-! SUPPORT. What each part of an event's end leaves as it is: the spec lemmas of protect, arbitrate, readbackCheck,
timing, handOn, alarms and conclude, which later proofs cite instead of unfolding them. -/

namespace Sys2Proof.Machine

/-! ## The relation -/

theorem EventFrame.refl (s : State) : EventFrame s s := by
  constructor <;> first | rfl | exact Or.inl rfl

theorem EventFrame.trans {s t u : State} (h : EventFrame s t) (g : EventFrame t u) : EventFrame s u where
  pending := g.pending.trans h.pending
  straps := g.straps.trans h.straps
  loadTimer := g.loadTimer.trans h.loadTimer
  config := g.config.trans h.config
  cfgdef := g.cfgdef.trans h.cfgdef
  restartPending := g.restartPending.trans h.restartPending
  scan := g.scan.trans h.scan
  dec := g.dec.trans h.dec
  cap := g.cap.trans h.cap
  peers := g.peers.trans h.peers
  line := by
    have h1 := h.line
    have g1 := g.line
    rw [← g1] at h1
    simpa using h1
  inHand := g.inHand.trans h.inHand
  phase := by
    rcases h.phase with h1 | ⟨h1, h2⟩ <;> rcases g.phase with g1 | ⟨g1, g2⟩
    · exact .inl (g1.trans h1)
    · exact .inr ⟨h1.symm.trans g1, g2⟩
    · exact .inr ⟨h1, g1.trans h2⟩
    · exact .inr ⟨h1, g2⟩
  spareLock := g.spareLock.trans h.spareLock
  force := g.force.trans h.force
  seconds := g.seconds.trans h.seconds
  temp := g.temp.trans h.temp
  k := g.k.trans h.k
  target := g.target.trans h.target
  history := g.history.trans h.history

/-- A trigger request is within the frame of an event. -/
theorem requestTrigger_frame (s : State) : EventFrame s (requestTrigger s) := by
  constructor <;> first | simp; done | exact requestTrigger_line_rest s | exact requestTrigger_inHand s

theorem triggerIf_frame (b : Bool) (s : State) : EventFrame s (triggerIf b s) := by
  unfold triggerIf; split
  · exact requestTrigger_frame s
  · exact .refl s

/-- The line of a part taken from another state keeps all but the trigger and the class in hand. -/
theorem trigPart_rest (s t : State) :
    { trigPart s t with trigger := s.line.trigger, inHand := s.line.inHand } = s.line := rfl

theorem trigPart_inHand (s t : State) :
    (trigPart s t).inHand.map (·.frame) = s.line.inHand.map (·.frame) := by
  simp [trigPart, Function.comp_def]

/-- A trigger request never takes a frame out of hand. -/
theorem trigPart_isNone (s t : State) : (trigPart s t).inHand.isNone = s.line.inHand.isNone := by
  simp [trigPart]

/-! ## Protection -/

theorem protectionPart_frame (s t : State) : EventFrame s (protectionPart s t) := by
  constructor <;> first | rfl | exact trigPart_inHand s t | exact .inl rfl

theorem requestPart_frame (s t : State) : EventFrame s (requestPart s t) := by
  constructor <;> first | rfl | exact trigPart_inHand s t | exact .inl rfl

/-- The Protection Engine's handling of an event stays within the frame. -/
theorem protect_frame (s : State) : EventFrame s (protect s) := by
  unfold protect; split
  · exact requestPart_frame s _
  · exact .refl s

/-- It moves no selection, first cause, command or lockout: a selection is written at the success of an actuation
(R72). -/
theorem protect_prec (s : State) (p : Port) :
    ((protect s).prec p).selection = (s.prec p).selection ∧ ((protect s).prec p).firstCause = (s.prec p).firstCause ∧
      ((protect s).prec p).command = (s.prec p).command ∧ ((protect s).prec p).lockout = (s.prec p).lockout := by
  unfold protect; split
  · simp [requestPart, State.prec]
  · simp

/-- It touches neither pairs nor reported positions nor readback marks (R108, R114, R117). -/
theorem protect_dport (s : State) (p : Port) :
    ((protect s).dport p).pairs = (s.dport p).pairs ∧ ((protect s).dport p).recvPos = (s.dport p).recvPos ∧
      ((protect s).dport p).bridgePos = (s.dport p).bridgePos ∧ ((protect s).dport p).mark = (s.dport p).mark ∧
      ((protect s).dport p).placed = (s.dport p).placed := by
  unfold protect; split
  · simp [requestPart, State.dport]
  · simp

@[simp] theorem protect_inFlight (s : State) : (protect s).drv.inFlight = s.drv.inFlight := by
  unfold protect; split <;> rfl

@[simp] theorem protect_tim (s : State) : (protect s).tim = s.tim := by unfold protect; split <;> rfl

@[simp] theorem protect_freq (s : State) : (protect s).freq = s.freq := by unfold protect; split <;> rfl

@[simp] theorem protect_alm (s : State) : (protect s).alm = s.alm := by unfold protect; split <;> rfl

@[simp] theorem protect_phase (s : State) : (protect s).phase = s.phase := by unfold protect; split <;> rfl

@[simp] theorem protect_listenTimer (s : State) : (protect s).listenTimer = s.listenTimer := by
  unfold protect; split <;> rfl

/-! ## The driver link -/

/-- The arbiter touches the driver alone (R111, R112). -/
theorem arbitrate_eq (s : State) : arbitrate s = { s with drv := (arbitrate s).drv } := by
  unfold arbitrate; split
  · rfl
  · split <;> rfl

theorem arbitrate_frame (s : State) : EventFrame s (arbitrate s) := by
  rw [arbitrate_eq]
  constructor <;> first | rfl | exact .inl rfl

@[simp] theorem arbitrate_prot (s : State) : (arbitrate s).prot = s.prot := by rw [arbitrate_eq]
@[simp] theorem arbitrate_exr (s : State) : (arbitrate s).exr = s.exr := by rw [arbitrate_eq]
@[simp] theorem arbitrate_tim (s : State) : (arbitrate s).tim = s.tim := by rw [arbitrate_eq]
@[simp] theorem arbitrate_freq (s : State) : (arbitrate s).freq = s.freq := by rw [arbitrate_eq]
@[simp] theorem arbitrate_alm (s : State) : (arbitrate s).alm = s.alm := by rw [arbitrate_eq]
@[simp] theorem arbitrate_phase (s : State) : (arbitrate s).phase = s.phase := by rw [arbitrate_eq]
@[simp] theorem arbitrate_listenTimer (s : State) : (arbitrate s).listenTimer = s.listenTimer := by rw [arbitrate_eq]

/-- The arbiter moves only the queue of the port it starts and the actuation in flight. -/
theorem arbitrate_dport (s : State) (p : Port) :
    (arbitrate s).dport p = { s.dport p with queue := ((arbitrate s).dport p).queue } := by
  unfold arbitrate
  split
  · rfl
  · split
    · rename_i k q e heq
      have hd : (startEntry s q e).dport p = (s.setDport q { s.dport q with queue := none }).dport p := rfl
      rw [hd, setDport_dport]
      split
      · rename_i h; subst h; rfl
      · rfl
    · rfl

/-- An actuation in flight is not replaced (R112). -/
theorem arbitrate_busy (s : State) (h : s.drv.inFlight.isSome = true) : arbitrate s = s := by
  unfold arbitrate; split
  · rfl
  · rename_i h'; simp [h'] at h

/-! ## Readback's end -/

theorem hitCand_frame (s : State) (c : Cand) : EventFrame s (hitCand s c) := by
  unfold hitCand; split
  · exact .refl s
  · constructor <;> first | rfl | exact .inl rfl

theorem foldl_frame {α : Type} (f : State → α → State) (hf : ∀ s x, EventFrame s (f s x)) (l : List α) (s : State) :
    EventFrame s (l.foldl f s) := by
  induction l generalizing s with
  | nil => exact .refl s
  | cons x xs ih => exact (hf s x).trans (ih (f s x))

theorem refHit_frame (s : State) (p : Port) : EventFrame s (refHit s p) := by
  unfold refHit
  refine foldl_frame _ (fun s i => ?_) _ s
  split
  · exact hitCand_frame s _
  · exact .refl s

theorem updRec_frame (s : State) (p : Port) (f : PortRec → PortRec) : EventFrame s (updRec s p f) := by
  constructor <;> first | rfl | exact .inl rfl

theorem takePosition_frame (s : State) (p : Port) : EventFrame s (takePosition s p) := by
  unfold takePosition; split
  · exact (updRec_frame s p _).trans (refHit_frame _ p)
  · exact .refl s

/-- The end of readback stays within the frame: it is the one change of phase there is (R118, R204). -/
theorem readbackCheck_frame (s : State) : EventFrame s (readbackCheck s) := by
  unfold readbackCheck; split
  · rename_i h
    have g := foldl_frame takePosition takePosition_frame (idx 16) s
    unfold beginListen
    generalize (idx 16).foldl takePosition s = s1 at g ⊢
    exact ⟨g.pending, g.straps, g.loadTimer, g.config, g.cfgdef, g.restartPending, g.scan, g.dec, g.cap, g.peers,
      g.line, g.inHand, .inr ⟨h.1, rfl⟩, g.spareLock, g.force, g.seconds, g.temp, g.k, g.target, g.history⟩
  · exact .refl s

@[simp] theorem readbackCheck_running (s : State) (h : s.phase = .running) : readbackCheck s = s := by
  simp [readbackCheck, h]

/-! ## Timing -/

theorem timingPart_frame (s t : State) : EventFrame s (timingPart s t) := by
  constructor <;> first | rfl | exact trigPart_inHand s t | exact .inl rfl

/-- The timing blocks stay within the frame. -/
theorem timing_frame (s : State) : EventFrame s (timing s) := by
  unfold timing; split
  · exact timingPart_frame s _
  · exact .refl s

@[simp] theorem timing_prot (s : State) : (timing s).prot = s.prot := by unfold timing; split <;> rfl
@[simp] theorem timing_drv (s : State) : (timing s).drv = s.drv := by unfold timing; split <;> rfl
@[simp] theorem timing_exr (s : State) : (timing s).exr = s.exr := by unfold timing; split <;> rfl
@[simp] theorem timing_alm (s : State) : (timing s).alm = s.alm := by unfold timing; split <;> rfl
@[simp] theorem timing_phase (s : State) : (timing s).phase = s.phase := by unfold timing; split <;> rfl
@[simp] theorem timing_listenTimer (s : State) : (timing s).listenTimer = s.listenTimer := by
  unfold timing; split <;> rfl

/-! ## The whole end of an event -/

theorem handOn_frame (s : State) : EventFrame s (handOn s) := by
  unfold handOn
  exact (protect_frame s).trans ((arbitrate_frame _).trans ((readbackCheck_frame _).trans (timing_frame _)))

/-- In normal running the changes are handed on in three steps. -/
theorem handOn_running (s : State) (h : s.phase = .running) : handOn s = timing (arbitrate (protect s)) := by
  unfold handOn
  rw [readbackCheck_running]
  simp [h]

/-- The Alarm Unit changes itself and the trigger (R165, R174). -/
theorem alarms_eq (old : Alarm) (s : State) :
    ∃ a b, alarms old s = triggerIf b { s with alm := a } ∧
      a = if s.running then Alarm.settle s old.points else Alarm.follow s := by
  exact ⟨_, _, rfl, rfl⟩

theorem alarms_frame (old : Alarm) (s : State) : EventFrame s (alarms old s) := by
  obtain ⟨a, b, h, -⟩ := alarms_eq old s
  rw [h]
  have g : EventFrame s { s with alm := a } := by constructor <;> first | rfl | exact .inl rfl
  exact g.trans (triggerIf_frame b _)

@[simp] theorem alarms_alm (old : Alarm) (s : State) :
    (alarms old s).alm = if s.running then Alarm.settle s old.points else Alarm.follow s := by
  obtain ⟨a, b, h, g⟩ := alarms_eq old s
  rw [h, triggerIf_alm, g]

@[simp] theorem alarms_prot (old : Alarm) (s : State) : (alarms old s).prot = s.prot := by
  obtain ⟨a, b, h, -⟩ := alarms_eq old s; rw [h, triggerIf_prot]
@[simp] theorem alarms_drv (old : Alarm) (s : State) : (alarms old s).drv = s.drv := by
  obtain ⟨a, b, h, -⟩ := alarms_eq old s; rw [h, triggerIf_drv]
@[simp] theorem alarms_exr (old : Alarm) (s : State) : (alarms old s).exr = s.exr := by
  obtain ⟨a, b, h, -⟩ := alarms_eq old s; rw [h, triggerIf_exr]
@[simp] theorem alarms_tim (old : Alarm) (s : State) : (alarms old s).tim = s.tim := by
  obtain ⟨a, b, h, -⟩ := alarms_eq old s; rw [h, triggerIf_tim]
@[simp] theorem alarms_freq (old : Alarm) (s : State) : (alarms old s).freq = s.freq := by
  obtain ⟨a, b, h, -⟩ := alarms_eq old s; rw [h, triggerIf_freq]
@[simp] theorem alarms_phase (old : Alarm) (s : State) : (alarms old s).phase = s.phase := by
  obtain ⟨a, b, h, -⟩ := alarms_eq old s; rw [h, triggerIf_phase]
@[simp] theorem alarms_listenTimer (old : Alarm) (s : State) : (alarms old s).listenTimer = s.listenTimer := by
  obtain ⟨a, b, h, -⟩ := alarms_eq old s; rw [h, triggerIf_listenTimer]

/-- The end of an event stays within the frame, whatever the points before it. -/
theorem conclude_frame (s0 s : State) : EventFrame s (conclude s0 s) := by
  unfold conclude
  exact (handOn_frame s).trans (alarms_frame _ _)

/-- In normal running an event ends with the Alarm Unit settled over what was handed on. -/
theorem conclude_alm (s0 s : State) :
    (conclude s0 s).alm =
      if (handOn s).running then Alarm.settle (handOn s) s0.alm.points else Alarm.follow (handOn s) := by
  unfold conclude; rw [alarms_alm]

@[simp] theorem conclude_prot (s0 s : State) : (conclude s0 s).prot = (handOn s).prot := by simp [conclude]
@[simp] theorem conclude_drv (s0 s : State) : (conclude s0 s).drv = (handOn s).drv := by simp [conclude]
@[simp] theorem conclude_exr (s0 s : State) : (conclude s0 s).exr = (handOn s).exr := by simp [conclude]
@[simp] theorem conclude_tim (s0 s : State) : (conclude s0 s).tim = (handOn s).tim := by simp [conclude]
@[simp] theorem conclude_freq (s0 s : State) : (conclude s0 s).freq = (handOn s).freq := by simp [conclude]
@[simp] theorem conclude_phase (s0 s : State) : (conclude s0 s).phase = (handOn s).phase := by simp [conclude]

/-- An event that begins in normal running ends in it. -/
theorem conclude_stays_running (s0 s : State) (h : s.phase = .running) : (conclude s0 s).phase = .running := by
  rw [conclude_phase, handOn_running s h]; simp [h]

/-- An event of a station that is not settled changes no phase. -/
theorem conclude_phase_of_ne (s0 s : State) (h : s.phase ≠ .readback) : (conclude s0 s).phase = s.phase := by
  rcases (conclude_frame s0 s).phase with g | ⟨g, -⟩
  · exact g
  · exact absurd g h

end Sys2Proof.Machine
end

