-- ==== Sys2Proof/Tests/Slice0.lean ====
section
/-! SUPPORT. Tests: the well-formedness checks, one or two small steps for each command from the manual's own numbers, and
a witness for the hypotheses of each obligation. -/

namespace Sys2Proof.Machine.Tests

set_option Elab.async false

/-! ## Well-formedness: an ill-formed term for each check -/

theorem test_wf_receiver : (Instr.sampleAnswer ⟨20, true, Sample.reset⟩).wellFormed = false := by decide +kernel
theorem test_wf_bits : (Instr.frameArrival []).wellFormed = false := by decide +kernel
theorem test_wf_edge : (Instr.edgeLoss 2).wellFormed = false ∧ (Instr.edgeReturn 5).wellFormed = false := by
  decide +kernel
theorem test_wf_target : (Instr.stat 30 32).wellFormed = false ∧ (Instr.capr 30 62).wellFormed = false ∧
    (Instr.logr 30 40 1).wellFormed = false ∧ (Instr.lrnAll 30 40).wellFormed = false ∧
    (Instr.clrl 30 40).wellFormed = false ∧ (Instr.aco 30 40).wellFormed = false ∧
    (Instr.trefClear 30 40).wellFormed = false ∧ (Instr.swpStep 30 40).wellFormed = false ∧
    (Instr.swpStop 30 40).wellFormed = false ∧ (Instr.rsta 30 40).wellFormed = false := by decide +kernel
theorem test_wf_station : (Instr.view 30 4 32).wellFormed = false := by decide +kernel
theorem test_wf_port : (Instr.port 30 4 16 1).wellFormed = false ∧ (Instr.maskOn 30 4 16).wellFormed = false ∧
    (Instr.maskOff 30 4 16).wellFormed = false ∧ (Instr.pswForce 30 4 16 0).wellFormed = false ∧
    (Instr.pswManual 30 4 16 0).wellFormed = false ∧ (Instr.pswLockout 30 4 16).wellFormed = false ∧
    (Instr.pswClear 30 4 16).wellFormed = false ∧ (Instr.pairClear 30 4 16 0).wellFormed = false := by decide +kernel
theorem test_wf_part : (Instr.port 30 4 15 0).wellFormed = false ∧ (Instr.port 30 4 15 3).wellFormed = false := by
  decide +kernel
theorem test_wf_spare : (Instr.spar 30 4 4).wellFormed = false ∧ (Instr.slkOn 30 4 4).wellFormed = false ∧
    (Instr.slkOff 30 4 4).wellFormed = false ∧ (Instr.pairClear 30 4 0 4).wellFormed = false ∧
    (Instr.swpStart 30 4 4 0 0 0 0).wellFormed = false := by decide +kernel
theorem test_wf_candidate : (Instr.timg 30 4 8).wellFormed = false ∧ (Instr.trefForce 30 4 0).wellFormed = false ∧
    (Instr.trefLockoutOn 30 4 8).wellFormed = false ∧ (Instr.trefLockoutOff 30 4 0).wellFormed = false := by
  decide +kernel
theorem test_wf_learn : (Instr.lrn 30 4 20).wellFormed = false := by decide +kernel
theorem test_wf_psw_target : (Instr.pswForce 30 4 0 4).wellFormed = false ∧
    (Instr.pswManual 30 4 0 254).wellFormed = false := by decide +kernel
theorem test_wf_sweep : (Instr.swpStart 30 4 0 2 0 0 0).wellFormed = false ∧
    (Instr.swpStart 30 4 0 0 17 0 0).wellFormed = false ∧ (Instr.swpStart 30 4 0 0 0 2 0).wellFormed = false ∧
    (Instr.swpStart 30 4 0 0 0 0 16).wellFormed = false := by decide +kernel

/-- 13.2: the image and its CRC fill at most 256 bytes. -/
theorem test_wf_image : (Instr.configReadEnd (.completed (List.replicate 255 0) RawImage.default 0) 0).wellFormed = false := by
  decide +kernel

/-! ## Small states -/

/-- The state a command leaves. -/
def after (i : Instr) (s : State) : State :=
  match exec i s with
  | .next t => t
  | .fault _ => s
  | .refused _ => s

/-- A shelf of number 4 in normal running, idle on every block, under the default image. -/
def calm : State := { State.reset with phase := .running, loadTimer := none, straps := 4 }

/-- The calm shelf with the record of P3 written. -/
def withRec (r : PortRec) : State := calm.setPrec 3 r

/-- The calm shelf with OCA written. -/
def withOca (r : CandRec) : State := calm.setCand 0 r

/-- The calm shelf with a frame in hand and on the line. -/
def sending (c : FrameClass) (collisions : Nat) : State :=
  { calm with line := { calm.line with
    inHand := some ⟨c, calm.announceFrame⟩, sending := true, collisions := collisions, view := .active } }

/-- The calm shelf with a conclusion of its line. -/
def withLine (f : BayLine → BayLine) : State := { calm with line := f calm.line }

/-- The calm shelf locked to OCA with F and K at 100. -/
def locked : State :=
  { withOca { CandRec.start false with state := .qualified, gate := true, f := some 100 } with
    tim := { (withOca { CandRec.start false with state := .qualified, gate := true, f := some 100 }).tim with
      selection := some 0 }
    freq := { calm.freq with state := .locked, k := 100 } }

/-- The shelf of the worked example of 10.5 as the clock is lost: K −842, sixteen entries of −841 in the history. -/
def hot (k : Int) (temp : BitVec 9) : State :=
  { calm with
    config := { calm.config with m1 := -24, m2 := 12, m3 := 40 }
    freq := { calm.freq with
      state := .holdover, k := k, h := some (-841), tEntry := some 200, hoTimer := some 0, temp := temp } }

/-- An announce content of station 7 with a trace of its own number alone. -/
def ann7 : Announce :=
  { isolated := false, unheard := false, cfgdef := false, fourth := false, heard := 0, critical := 0, major := 0
    minor := 0, warning := 0, highest := none, claims := [], timing := .locked, ql := 2, trace := [7] }

/-- A frame of station 7. -/
def frame7 (kind : BitVec 3) (target : BitVec 6) (payload : List Byte) : Frame := ⟨kind, 7, 0, target, payload⟩

/-! ## Start -/

/-- 13.1: a number of 30 or 31 is CONFIG-HALT. -/
theorem test_full_reset_halt : (after (.fullReset 30) calm).phase = .halt := by decide +kernel
theorem test_full_reset_load : (after (.fullReset 29) calm).phase = .loading false := by decide +kernel
/-- R200: a first read that fails is read again. -/
theorem test_read_again : (after (.configReadTimeout 0) { State.reset with loadTimer := some 0 }).phase = .loading true ∧
    (after (.configReadTimeout 0) State.reset).phase = .loading false := by decide +kernel
theorem test_read_fails : (after (.configReadEnd (.completed [] RawImage.default (crcOf [] + 1)) 0) State.reset).phase = .loading true := by
  decide +kernel
/-- R201: "The default image needs no replacement". -/
theorem test_default_image : settleImage RawImage.default 4 = Config.default ∧ imageReplaced RawImage.default 4 = false := by
  decide +kernel
/-- R130: a soak above 1000 is replaced, and breakpoints out of order become 160 and 320. -/
theorem test_image_replaced :
    (settleImage { RawImage.default with soak := 2000, tb1 := 320, tb2 := 320 } 4).soak = 1000 ∧
    (settleImage { RawImage.default with soak := 2000, tb1 := 320, tb2 := 320 } 4).tb1 = 160 := by decide +kernel
/-- R85: at the listen period's end a waiting record of a port without SF or SD goes to WTR with its full timer. -/
theorem test_listen_end_places :
    ((placeRecord (withRec { PortRec.reset with state := .switched, claim := some ⟨1, .undecided, true⟩ }) 3).prec 3).wtr =
      some 30000 := by decide +kernel

/-! ## Receivers and tracers -/

theorem test_sample_kept :
    (after (.sampleAnswer ⟨0, true, Sample.reset⟩) calm).scan.kept = some Sample.reset := by decide +kernel
theorem test_sample_bad_checksum :
    (after (.sampleAnswer ⟨0, false, Sample.reset⟩) calm).scan.kept = none := by decide +kernel
/-- R1: receivers 0–19 in turn, and receiver 0 after receiver 19. -/
theorem test_slot_wraps : (State.scanSlot { calm with scan := { calm.scan with next := 19 } }).next = 0 := by
  decide +kernel
/-- R3: the error count saturates at 255. -/
theorem test_errors_saturate : (RecvScan.hold { RecvScan.reset with errors := 255 } none).errors = 255 := by
  decide +kernel
/-- R19: the check of a tracer word is site + 7 × station + 13 × port modulo 64: 41 + 7·12 + 13·7 = 216 gives 24. -/
theorem test_tracer_check : TracerWord.valid ⟨41, 12, 7, 24⟩ = true ∧ TracerWord.valid ⟨41, 12, 7, 25⟩ = false := by
  decide +kernel

/-! ## The bay line -/

/-- 3.6: an announce with no claim and a trace of one is 23 bytes, 184 bit times. -/
theorem test_announce_length : calm.announceFrame.bits.length = 184 := by decide +kernel
theorem test_activity : (after .lineActivity calm).line.rx = .assembling := by decide +kernel
theorem test_idle : (after .lineIdle (after .lineActivity calm)).line.rx = .quiet := by decide +kernel
/-- R41: station 4 defers 8 bit times for urgent work. -/
theorem test_attempt_deferral :
    (after (.attemptStart 7) (withLine fun l => { l with trigger := true })).line.inHand = none ∧
    (after (.attemptStart 8) (withLine fun l => { l with trigger := true })).line.sending = true := by decide +kernel
theorem test_frame_sent : (after (.frameSent 4) (sending .triggered 3)).line.spacing = some 4 := by decide +kernel
theorem test_collision_kept : (after (.collision 4) (sending .routine 6)).line.collisions = 7 := by decide +kernel
/-- R43: the eighth collision drops the frame. -/
theorem test_collision_dropped :
    (leaveHand (sending .routine 7).line .routine).inHand = none ∧
    (leaveHand (sending .routine 7).line .routine).routine = some 50 := by decide +kernel
theorem test_spacing : (after .spacingTimerExpiry (withLine fun l => { l with spacing := some 0 })).line.spacing = none := by
  decide +kernel
theorem test_routine : (after .routineTimerExpiry (withLine fun l => { l with routine := some 0 })).line.routineDue = true := by
  decide +kernel
theorem test_frame_arrival_discarded :
    (after (.frameArrival [true, false]) (withLine fun l => { l with view := .active })).line.view = .idle := by
  decide +kernel
/-- R37: a frame of the own number is discarded. -/
theorem test_own_source : (frame7 1 63 []).accepted 7 = false ∧ (frame7 1 63 []).accepted 4 = true := by decide +kernel
/-- R38: a trace list that does not begin with the source is malformed. -/
theorem test_announce_judged :
    announceOf 7 ann7.bytes = some ann7 ∧ announceOf 8 ann7.bytes = none := by decide +kernel

/-! ## Peers -/

theorem test_peer_expires :
    (PeerRec.expired ⟨true, some 3, some ann7, none⟩).quarantine = some ⟨[], 1000⟩ := by decide +kernel
/-- R55: a quarantine that still runs goes on. -/
theorem test_peer_expires_again :
    (PeerRec.expired ⟨true, some 3, some ann7, some ⟨[], 5⟩⟩).quarantine = some ⟨[], 5⟩ := by decide +kernel
/-- R55, R60: a frame taken first leaves no expiry. -/
theorem test_frame_before_expiry :
    let s := refresh { calm.setPeer 7 ⟨true, some 200, none, none⟩ with
      peers := { (calm.setPeer 7 ⟨true, some 200, none, none⟩).peers with silence := some 0 } } 7
    ((after (.peerExpiry 7) s).peer 7).present = true ∧ (after .silenceTimerExpiry s).peers.isolated = false := by
  decide +kernel
/-- R61: with no record taking part the test does not hold; with one that leaves the own number out it does. -/
theorem test_unheard :
    calm.unheardTest = false ∧ (calm.setPeer 7 ⟨true, some 0, some ann7, none⟩).unheardTest = true := by decide +kernel

/-! ## Protection -/

/-- R88: FORCED of a higher station ranks above SIGFAIL; of equal classes the lower station, then the lower port. -/
theorem test_rank :
    ViewEntry.outranks ⟨9, 5, .forced, false, .own⟩ ⟨3, 2, .sigfail, true, .present⟩ = true ∧
    ViewEntry.outranks ⟨9, 2, .sigfail, false, .own⟩ ⟨9, 5, .sigfail, false, .own⟩ = true := by decide +kernel
theorem test_claim_window :
    ((settlePort (withRec { PortRec.reset with
      state := .claiming, claim := some ⟨1, .sigfail, false⟩, window := some 0 }) 3).dport 3).queue =
      some ⟨.connect 1, .record, false⟩ := by decide +kernel
theorem test_wtr_releases :
    ((enterReleasing (withRec { PortRec.reset with
      state := .wtr, claim := some ⟨1, .wtr, true⟩, selection := some 1, wtr := some 0 }) 3).dport 3).queue =
      some ⟨.restore, .record, false⟩ := by decide +kernel
/-- R111: RESTORE before CONNECT before BRIDGE. -/
theorem test_arbiter :
    ((arbitrate (putQueue (putQueue (putQueue calm 1 (some ⟨.bridge 0, .exerciser, false⟩))
      2 (some ⟨.connect 1, .record, false⟩)) 9 (some ⟨.restore, .record, false⟩))).drv.inFlight.map (·.port)) = some 9 := by
  decide +kernel
/-- R108: an expiry that finds the allowance of the next actuation running fails nothing. -/
theorem test_allowance_of_the_next :
    let s : State := { calm with drv := { Driver.reset with inFlight := some ⟨4, ⟨.connect 1, .record, false⟩, some 1, 5⟩ } }
    (after .allowanceExpiry s).drv.inFlight.isSome = true := by decide +kernel
/-- 7.4: under recovery 1 a pair's third marking starts no timer. -/
theorem test_recovery : recoveryTimer 1 1 = some 1000 ∧ recoveryTimer 1 2 = none ∧ recoveryTimer 3 200 = some 6000 := by
  decide +kernel
/-- R108: a CONNECT answered with another position than its own fails. -/
theorem test_answer_judged :
    (Cmd.connect 1).succeeds (some (.done (.spare 1) .unknown)) = true ∧
    (Cmd.connect 1).succeeds (some (.done (.spare 2) .unknown)) = false ∧ Cmd.restore.succeeds none = false := by
  decide +kernel
/-- R107, R113: the bridge as the Driver last knew it. -/
theorem test_bridge_known :
    bridgeKnown none (.bridge 1) none = some 1 ∧ bridgeKnown none (.bridge 1) (some (.done .unknown (.spare 2))) = some 2 ∧
    bridgeKnown none (.bridge 1) (some (.done .unknown .working)) = none ∧
    bridgeKnown (some 1) .restore (some (.done .working .unknown)) = none ∧
    bridgeKnown (some 1) .unbridge (some .error) = some 1 := by decide
/-- R116: a RESTORE retry ends an UNBRIDGE retry and removes its waiting command. -/
theorem test_restore_retry_takes_over :
    ((setRetry (calm.setDport 3 { PortDrv.reset with
      waiting := some ⟨.unbridge, .driver, false⟩, retry := some ⟨.unbridge, none⟩ }) 3 .restore).dport 3).waiting = none := by
  decide +kernel
/-- R116: an UNBRIDGE retry ends at the success of its own command, not of an Exerciser's. -/
theorem test_retry_ends_at_its_command :
    let s := calm.setDport 3 { PortDrv.reset with retry := some ⟨.unbridge, some 4⟩ }
    ((noteSuccess s 3 ⟨.unbridge, .exerciser, false⟩).dport 3).retry = some ⟨.unbridge, some 4⟩ ∧
    ((noteSuccess s 3 ⟨.unbridge, .driver, false⟩).dport 3).retry = none := by decide +kernel
/-- R181, R116: the kinds of a retry are sent as 0 and 1. -/
theorem test_retry_code : RetryKind.code .restore = 0 ∧ RetryKind.code .unbridge = 1 := by decide
theorem test_driver_answer_other :
    after (.driverAnswer ⟨.restore, 3, .error⟩) calm = calm ∧ after .allowanceExpiry calm = calm := by decide +kernel
theorem test_retry : (after (.retryTimerExpiry 3) calm) = calm := by decide +kernel
/-- R123: an unused port is SKIPPED at a step time. -/
theorem test_step_skipped :
    (tget (stepTime { calm with config := { calm.config with used := 0 } }).exr.results 0).result = .skipped := by
  decide +kernel
theorem test_step_timer_stopped : after .stepTimerExpiry calm = calm := by decide +kernel

/-! ## Timing: the tables of 10.2 and 10.5 -/

theorem test_filter : filter (some 100) 5 = 98 ∧ filter (some (-841)) (-53) = -841 := by decide +kernel
theorem test_saturated : measure 24997500 = (2047, true) ∧ filter none 2047 = 32752 := by decide +kernel
theorem test_gate_start :
    ((after (.gateStart 0) (withOca (CandRec.start false))).cand 0).gate = true := by decide +kernel
theorem test_gate_completes :
    (completeGate (withOca { CandRec.start false with gate := true, good := 2 }) 0 24999995).tim.selection = some 0 := by
  decide +kernel
theorem test_edge_back :
    ((edgeBack (withOca { CandRec.start false with state := .failed, noEdges := true, sigFail := true }) 0).cand 0).gate =
      true := by decide +kernel
theorem test_overrun : (CandRec.overrun { CandRec.start false with state := .qualified }).state = .qualifying := by
  decide +kernel
/-- 10.5: at the first tick T is −841 and K goes from −842 to −841. -/
theorem test_holdover_tick : (correct (hot (-842) 200) false).freq.k = -841 := by decide +kernel
/-- 10.5, warming: at code 352 T is −798 and K goes from −810 to −806. -/
theorem test_holdover_warm :
    (hot (-810) 352).target = -798 ∧ (correct (hot (-810) 352) false).freq.k = -806 := by decide +kernel
/-- 10.5, cooling: at code 100 T is −826. -/
theorem test_holdover_cold : (hot (-810) 100).target = -826 := by decide +kernel
theorem test_tick_before_settling : (after (.secondsTick 9) State.reset).freq.seconds = 1 := by decide +kernel
theorem test_limit_elsewhere : after .holdoverLimitExpiry calm = calm := by decide +kernel

/-! ## Requests -/

/-- R187: LOGR 20 on a log of 11 takes 8 and leaves 3. -/
theorem test_logr :
    (readLog { calm with alm := { calm.alm with log := List.replicate 11 ⟨0, 0, .raised, .minor⟩ } } 20).alm.log.length = 3 := by
  decide +kernel
theorem test_capr : (readCapture { calm with cap := ⟨[⟨3, none, none, 7, .lost⟩], true⟩ }).cap = ⟨[], false⟩ := by
  decide +kernel
/-- R182: the STAT response is 46 bytes of payload, 54 on the line (3.6). -/
theorem test_stat : (statData calm).length = 44 := by decide +kernel
/-- R181: ranges of the parameters, and those that are not judged. -/
theorem test_parse_ranges :
    parse [2, 32] = none ∧ parse [3, 0, 3] = none ∧ parse [6, 255] = some (.logr 255) ∧ parse [8, 255] = some .lrnAll ∧
    parse [8, 20] = none ∧ parse [14, 2, 99] = some .trefClear ∧ parse [12, 3, 1, 4] = none ∧
    parse [15, 2, 9, 9, 9, 9, 9] = some .swpStep := by decide +kernel
theorem test_parse_forms :
    parse [5, 7] = some (.timgCand 6) ∧ parse [12, 3, 1, 255] = some (.force 3 none) ∧
    parse [16, 5, 3] = some (.pairClear 5 3) ∧ parse [15, 1, 1, 1, 0, 0, 255] = some (.swpStart 1 .free 0 false none) := by
  decide +kernel
/-- R193: MANUAL under a FORCED command is refused STATE. -/
theorem test_manual_refused :
    (setCommand calm 3 (.forced none)).refusal (.manual 3 none) = some .state ∧
    calm.refusal (.manual 3 none) = none := by decide +kernel
/-- R26: a spare receiver does not learn a port field below 16. -/
theorem test_learn :
    State.learnable { calm with dec := { calm.dec with recvs := tconst 20 ⟨none, 0, 0, some ⟨41, 12, 7⟩, none⟩ } } 16 = false ∧
    State.learnable { calm with dec := { calm.dec with recvs := tconst 20 ⟨none, 0, 0, some ⟨41, 12, 7⟩, none⟩ } } 15 = true := by
  decide +kernel
theorem test_lockout_claim : (lockSpare calm 2 true).ownClaims 2 = [⟨4, 31, .lockout, true, .own⟩] := by decide +kernel
theorem test_tref_lockout : ((lockCand calm 0 true).cand 0).state = .lockedout := by decide +kernel
theorem test_pair_clear :
    (forgivePair (calm.setPair 3 1 ⟨true, 2, some 5⟩) 3 1).pair 3 1 = Pair.reset := by decide +kernel
theorem test_sweep_start : (sweepStart calm 1 .paced 0 false (some 9)).exr.remaining = 16 := by decide +kernel
theorem test_mask : (tget (setMaint calm 3 true).dec.maint 3) = true := by decide +kernel
theorem test_request_unsettled : (after (.rsta 30 4) State.reset).restartPending = false := by decide +kernel
theorem test_psw_other_station : targetOk 40 = false := by decide +kernel

/-! ## Witnesses: states and operands that meet the hypotheses of the obligations together -/

/-- The calm shelf in the phase given. -/
def inPhase (ph : Phase) : State := { calm with phase := ph }

/-- CONFIG-HALT as a full reset with straps 31 leaves it. -/
def halt : State := { State.reset with phase := .halt, straps := 31, loadTimer := none }

theorem witness_HaltLastsUntilFullReset : halt.phase = .halt ∧ halt.line.inHand = none ∧
    (∀ straps, Instr.lineIdle ≠ .fullReset straps) ∧ ∃ t, exec .lineIdle halt = .next t :=
  ⟨rfl, rfl, fun _ => nofun, _, rfl⟩

theorem witness_IdleStepLetsTimePass : calm.pending = [] := rfl

theorem witness_FullResetGivesTheResetState : (29#5).toNat < 30 ∧ (0#5).toNat < 30 := by decide

theorem witness_CraftNumberHaltsTheStation : 30 ≤ (30#5).toNat ∧ 30 ≤ (31#5).toNat := by decide

theorem witness_GoodReadSettlesTheImage :
    (State.reset.phase = .loading false ∧ State.reset.drv = Driver.reset) ∧
    ({ State.reset with phase := .loading true } : State).phase = .loading true ∧
    RawImage.default.used.getLsbD (15 : Port).val = true ∧ RawImage.default.used ≠ 0 ∧
    ({ RawImage.default with used := 0 } : RawImage).used = 0 := by
  refine ⟨⟨rfl, rfl⟩, rfl, ?_, ?_, rfl⟩ <;> decide +kernel

theorem witness_FailedReadsEndInTheDefaultImage :
    State.reset.loadTimer ≠ some 0 ∧ { State.reset with loadTimer := some 0 }.loadTimer = some 0 ∧
    State.reset.phase = .loading false ∧ (inPhase (.loading true)).phase = .loading true ∧
    ∃ image fields held, crcOf image ≠ held ∧
      Instr.configReadEnd (.completed [] RawImage.default (crcOf [] + 1)) 0 =
        .configReadEnd (.completed image fields held) 0 :=
  ⟨by decide, rfl, rfl, rfl, [], RawImage.default, crcOf [] + 1, by decide +kernel, rfl⟩

theorem witness_SettledImageIsInRange :
    imageReplaced RawImage.default 4 = false ∧
    tget (settleImage { RawImage.default with nominated := tconst 4 (some 15) } 4).nominated 3 = some 15 ∧
    (settleImage { RawImage.default with upstream := some 29 } 4).upstream = some 29 := by decide +kernel

/-- The calm shelf at the slot of S3's receiver, its mask at the count given. -/
def slot19 (n : Nat) : State := { calm with scan := { calm.scan with next := 19, masks := tconst 4 n } }

theorem witness_SlotTakesOneSample :
    (calm.settled = true ∧ calm.scan.kept = none ∧
      (⟨0, true, Sample.reset⟩ : SampleAnswer).recv.toNat = calm.scan.next.val ∧
      (⟨20, true, Sample.reset⟩ : SampleAnswer).recv.toNat ≠ calm.scan.next.val) ∧
    (slot19 0).settled = true ∧ (slot19 0).maskLeft 19 = 0 ∧ 0 < (slot19 1).maskLeft 19 ∧
    ((24#6).toNat = ((41#8).toNat + 7 * (12#5).toNat + 13 * (7#5).toNat) % 64) ∧ Sample.reset.tracer ≠ true := by
  decide +kernel

theorem witness_LosFollowsTheLightFlagAlone :
    let r := RecvScan.reset
    let g := Config.default
    r.los = ⟨false, 0⟩ ∧ { r with los := ⟨true, 0⟩ }.los = ⟨true, 0⟩ ∧ Sample.reset.lol = true ∧
      ({ Sample.reset with lol := false } : Sample).lol = false ∧ r.los.active = false ∧ r.low = ⟨false, 0⟩ ∧
      r.deg = ⟨false, 0⟩ ∧ ({ Sample.reset with lol := false } : Sample).code = 0 ∧
      0 < g.failThr ∧ 0 < g.degThr ∧ 0 < g.soak := by decide +kernel

theorem witness_ConditionChangesAtItsTarget : (0 : Nat) < 1 ∧ (0 : Nat) < 1000 ∧ 999 < 1000 := by decide

theorem witness_IdentityNeedsAFullRun :
    RecvDec.reset.cand ≠ some ⟨41, 12, 7⟩ ∧ RecvDec.reset.absence = 0 ∧ (0 : Nat) < 99 ∧ 99 < 100 ∧ 7 < 8 := by decide

/-- The calm shelf one sample before receiver 0's identity is accepted, with n captures waiting. -/
def beforeIdentity (n : Nat) : State :=
  { calm with
    scan := { calm.scan with kept := some ⟨200, false, true, ⟨41, 12, 7, 24⟩⟩ }
    dec := { calm.dec with recvs := tconst 20 ⟨some ⟨41, 12, 7⟩, 7, 0, none, none⟩ }
    cap := ⟨List.replicate n ⟨0, none, none, 0, .lost⟩, false⟩ }

/-- A slot completion's Decoder is what its decoding leaves. -/
theorem slot_dec (s : State) (h : s.settled = true) :
    ∃ t, exec .slotCompletion s = .next t ∧
      t.dec = (decodeSlot { s with scan := s.scanSlot } s.scan.next
        (State.recv { s with scan := s.scanSlot } s.scan.next).last).dec :=
  ⟨_, if_pos h, (conclude_frame _ _).dec⟩

theorem witness_IdentityChangeIsCaptured :
    (beforeIdentity 3).cap.queue.length < 4 ∧ (beforeIdentity 3).settled = true ∧
    ∃ t, exec .slotCompletion (beforeIdentity 3) = .next t ∧ (t.decv 0).ident ≠ ((beforeIdentity 3).decv 0).ident := by
  refine ⟨by decide, rfl, ?_⟩
  obtain ⟨t, ht, hd⟩ := slot_dec (beforeIdentity 3) rfl
  refine ⟨t, ht, ?_⟩
  unfold State.decv
  rw [hd]
  decide +kernel

theorem witness_SlotLearns :
    let s := { beforeIdentity 0 with config := { calm.config with autoLearn := true } }
    s.settled = true ∧ (s.decv 0).expect = none ∧ ∃ t, exec .slotCompletion s = .next t ∧
      (t.decv 0).ident = some ⟨41, 12, 7⟩ ∧ (t.decv 0).ident ≠ (s.decv 0).ident := by
  refine ⟨rfl, by decide +kernel, ?_⟩
  obtain ⟨t, ht, hd⟩ := slot_dec { beforeIdentity 0 with config := { calm.config with autoLearn := true } } rfl
  refine ⟨t, ht, ?_⟩
  unfold State.decv
  rw [hd]
  decide +kernel

theorem witness_IdentityChangeIsLost :
    4 ≤ (beforeIdentity 4).cap.queue.length ∧ (beforeIdentity 4).settled = true ∧
    ∃ t, exec .slotCompletion (beforeIdentity 4) = .next t ∧ (t.decv 0).ident ≠ ((beforeIdentity 4).decv 0).ident := by
  refine ⟨by decide, rfl, ?_⟩
  obtain ⟨t, ht, hd⟩ := slot_dec (beforeIdentity 4) rfl
  refine ⟨t, ht, ?_⟩
  unfold State.decv
  rw [hd]
  decide +kernel

theorem witness_IdentityUnchanged : calm.settled = true ∧ ∃ t, exec .slotCompletion calm = .next t ∧
    (t.decv 0).ident = (calm.decv 0).ident := by
  obtain ⟨t, ht, hd⟩ := slot_dec calm rfl
  refine ⟨rfl, t, ht, ?_⟩
  unfold State.decv
  rw [hd]
  decide +kernel

theorem witness_ExpectationLastsUntilFullReset :
    (∀ straps, Instr.lineActivity ≠ .fullReset straps) ∧ (∃ t, exec .lineActivity calm = .next t) ∧
    (State.decv { calm with dec := { calm.dec with recvs := tconst 20 ⟨none, 0, 0, none, some ⟨41, 12, 7⟩⟩ } } 19).expect.isSome
      = true := ⟨fun _ => nofun, ⟨_, rfl⟩, by decide +kernel⟩

theorem witness_LineViewAndLineTimers :
    (let s := withLine fun l => { l with spacing := some 0, routine := some 0, linefault := some 0 }
     s.line.spacing = some 0 ∧ s.line.routine = some 0 ∧ s.line.linefault = some 0) ∧
    (let s := withLine fun l => { l with spacing := none, routine := some 50, linefault := some 1 }
     s.line.spacing ≠ some 0 ∧ s.line.routine ≠ some 0 ∧ s.line.linefault ≠ some 0) := by decide +kernel

/-- An announce content of station 7 with as many claims and entries as it can hold. -/
def full7 : Announce :=
  { ann7 with
    claims := [⟨31, 0, .lockout, true⟩, ⟨15, 1, .forced, false⟩, ⟨0, 2, .exercise, false⟩, ⟨32, 3, .wtr, true⟩]
    ql := 7, trace := [7, 1, 2, 3, 4, 5, 6, 8] }

theorem witness_FramesAndAnnouncesAreReadBack :
    ((frame7 1 63 (List.replicate 64 255)).payload.length ≤ 64 ∧ (frame7 1 63 []).payload.length ≤ 64) ∧
    full7.claims.length ≤ 4 ∧ sameSpare full7.claims = false ∧
    (∀ c ∈ full7.claims, c.cls ≠ .undecided ∧ ¬(16 ≤ c.port.toNat ∧ c.port.toNat ≤ 30) ∧
      (c.cls = .lockout ↔ c.port = 31)) ∧
    1 ≤ full7.ql ∧ full7.ql ≤ 7 ∧ full7.trace.length ≤ 8 ∧
    full7.trace.head? = some ((7#5).setWidth 8) := by decide +kernel

theorem witness_AnnounceIsTakenIntoThePeerView :
    let f := frame7 1 63 ann7.bytes
    calm.settled = true ∧ calm.line.rx ≠ .ignoring ∧ frameOf f.bits = some f ∧ f.accepted calm.own = true ∧
      f.kind = 1 ∧ announceOf f.source f.payload = some ann7 ∧ (7 : Station).val = f.source.toNat := by decide +kernel

theorem witness_OtherFramesOnlyRefresh :
    let resp := frame7 2 30 [1, 0]
    let req := frame7 3 5 [1]
    let own : Frame := ⟨1, 4, 0, 63, []⟩
    let bad := frame7 1 63 []
    calm.settled = true ∧ calm.line.rx ≠ .ignoring ∧
    requestOf (.stat 7 req.target) = some (7, req.target, req.payload) ∧
    (frameOf resp.bits = some resp ∧ resp.accepted calm.own = true ∧ resp.kind = 2) ∧
    (frameOf req.bits = some req ∧ req.accepted calm.own = true ∧ req.kind = 3 ∧ req.target ≠ 63 ∧
      req.target.toNat ≠ calm.own.val) ∧
    frameOf [] = none ∧ (frameOf own.bits = some own ∧ own.accepted calm.own = false) ∧
    (frameOf bad.bits = some bad ∧ bad.kind = 1 ∧ announceOf bad.source bad.payload = none) := by decide +kernel

/-- Work for the transmitter of the calm shelf. -/
def working (trigger : Bool) (spacing : Option Nat) (responses : List Response) (due : Bool) : State :=
  withLine fun l => { l with trigger := trigger, spacing := spacing, responses := responses, routineDue := due }

theorem witness_AttemptTakesTheChosenWork :
    (∀ s ∈ [working true none [] false, working true (some 4) [⟨30, [1, 0]⟩] true, working false none [] true],
      s.settled = true ∧ s.line.view = .idle ∧ s.line.sending = false ∧ s.line.inHand = none) ∧
    (working true none [] false).work = some .triggered ∧ 7 < deferral (4 : Station) .triggered ∧
    ((working true none [] false).line.trigger = true ∧ (working true none [] false).line.spacing = none ∧
      2 * (working true none [] false).own.val ≤ 8) ∧
    ((working true (some 4) [⟨30, [1, 0]⟩] true).line.spacing ≠ none ∧
      (working true (some 4) [⟨30, [1, 0]⟩] true).line.responses = ⟨30, [1, 0]⟩ :: []) ∧
    ((working false none [] true).line.trigger = false ∧ (working false none [] true).line.responses = [] ∧
      (working false none [] true).line.routineDue = true ∧ 80 + 2 * (working false none [] true).own.val ≤ 88) := by
  decide +kernel

theorem witness_FrameInHandIsSentOrDropped (c : FrameClass) (n : Nat) (h : n = 6 ∨ n = 7) :
    (sending c n).line.sending = true ∧ (sending c n).line.inHand = some ⟨c, calm.announceFrame⟩ ∧
    (sending c n).restartPending = false ∧ ((sending c n).line.collisions < 7 ∨ (sending c n).line.collisions = 7) := by
  refine ⟨rfl, rfl, rfl, ?_⟩
  rcases h with rfl | rfl
  · exact .inl (show (6 : Nat) < 7 by decide)
  · exact .inr rfl

/-- The shelf as its RSTA response goes out, with a history of n entries. -/
def restarting (n : Nat) : State :=
  { sending .response 0 with
    restartPending := true
    line := { (sending .response 0).line with responses := [⟨30, [17, 0]⟩] }
    freq := { calm.freq with history := List.replicate n 5 } }

theorem witness_RestartKeepsWhatItKeeps (n : Nat) :
    ((29#5).toNat < 30 ∧ 30 ≤ (30#5).toNat) ∧ (restarting n).restartPending = true ∧ (restarting n).line.sending = true ∧
    (restarting n).line.inHand = some ⟨.response, calm.announceFrame⟩ ∧
    (restarting n).line.responses.head?.map (·.payload) = some [17, 0] ∧
    (4 ≤ (restarting n).freq.history.length ∨ (restarting n).freq.history.length < 4) :=
  ⟨by decide, rfl, rfl, rfl, rfl, Nat.lt_or_ge 3 _ |>.imp id fun h => Nat.lt_succ_of_le h⟩

theorem witness_PeersExpireAndTheStationIsCutOff :
    (((calm.setPeer 31 ⟨true, some 200, some full7, none⟩).peer 31).present = true ∧
      ((calm.setPeer 31 ⟨true, some 200, some full7, none⟩).peer 31).age = some 200) ∧
    ((calm.setPeer 31 ⟨true, some 199, some full7, none⟩).peer 31).age = some 199 ∧ (calm.peer 31).present = false ∧
    ((calm.setPeer 0 ⟨false, some 200, none, some ⟨[], 0⟩⟩).peer 0).quarantine = some ⟨[], 0⟩ ∧
    ((calm.setPeer 0 ⟨false, some 200, none, some ⟨[], 1⟩⟩).peer 0).quarantine = some ⟨[], 1⟩ ∧
    (let s : State := { calm with peers := { calm.peers with silence := some 0, unheardTimer := some 0 } }
     s.peers.silence = some 0 ∧ s.peers.unheardTimer = some 0 ∧ s.phase = .running) ∧
    calm.peers.silence ≠ some 0 ∧ calm.peers.unheardTimer ≠ some 0 := by decide +kernel

/-! ### Protection -/

/-- The receivers of S1 and S3 with light, and the identities they expect or none, P3's receiver with or without light. -/
def lit (los matched : Bool) : State :=
  { calm with
    scan := { calm.scan with recvs := tset calm.scan.recvs 3 { RecvScan.reset with los := ⟨los, 0⟩ } }
    dec := { calm.dec with
      recvs := tset (tset calm.dec.recvs 17
        { RecvDec.reset with ident := if matched then some ⟨0, 4, 17⟩ else none, expect := some ⟨0, 4, 17⟩ }) 19
        { RecvDec.reset with ident := if matched then some ⟨0, 4, 19⟩ else none, expect := some ⟨0, 4, 19⟩ } } }

/-- The lit shelf with P3's record as given and nothing else of it busy. -/
def p3 (los matched : Bool) (r : PortRec) : State := (lit los matched).setPrec 3 r

theorem p3_quiet (los matched : Bool) (r : PortRec) : QuietBut (p3 los matched r) 3 where
  running := rfl
  heard := ⟨rfl, rfl⟩
  idle := by
    intro q hq
    have h : (p3 los matched r).prec q = PortRec.reset := by
      unfold p3 State.prec State.setPrec
      rw [tget_tset_ne _ (Ne.symm hq)]
      exact tget_tconst _ q
    refine ⟨by rw [h]; rfl, by rw [h]; rfl, ?_⟩
    have hs : (p3 los matched r).sf q = false := by
      have : (portRecv q).val ≠ 3 ∧ (portRecv q).val < 16 := ⟨fun e => hq (Fin.ext e), q.isLt⟩
      have hr : (p3 los matched r).recv (portRecv q) = RecvScan.reset := by
        show tget (tset _ 3 _) (portRecv q) = _
        rw [tget_tset_ne _ (fun e => this.1 (by rw [← e]; rfl))]
        exact tget_tconst _ _
      have hd : (p3 los matched r).decv (portRecv q) = RecvDec.reset := by
        show tget (tset (tset _ 17 _) 19 _) (portRecv q) = _
        rw [tget_tset_ne _ (fun e => absurd this.2 (by rw [← e]; decide)),
          tget_tset_ne _ (fun e => absurd this.2 (by rw [← e]; decide))]
        exact tget_tconst _ _
      simp [State.sf, State.timOf, hr, hd, RecvScan.reset, RecvDec.reset, Condition.reset]
    have hd : (p3 los matched r).sd q = false := by
      have hr : (p3 los matched r).recv (portRecv q) = RecvScan.reset := by
        show tget (tset _ 3 _) (portRecv q) = _
        rw [tget_tset_ne _ (fun e => hq (Fin.ext (by rw [Fin.ext_iff] at e; exact e.symm)))]
        exact tget_tconst _ _
      simp [State.sd, hr, RecvScan.reset, Condition.reset]
    simp [State.standing, h, PortRec.reset, hs, hd]
  queue := by intro q; exact ⟨by rw [show (p3 los matched r).dport q = PortDrv.reset from tget_tconst _ q]; rfl,
    by rw [show (p3 los matched r).dport q = PortDrv.reset from tget_tconst _ q]; rfl⟩
  step := rfl
  demands := by intro sp; exact tget_tconst _ sp

/-- P3 in HOLDOFF. -/
def holding (los matched : Bool) : State := p3 los matched { PortRec.reset with state := .holdoff, holdoff := some 0 }

theorem witness_HoldoffEndsInSeekingOrIdle :
    QuietBut (holding true true) 3 ∧ QuietBut (holding false true) 3 ∧ QuietBut (holding true false) 3 ∧
    ((holding true true).prec 3).state = .holdoff ∧ ((holding true true).prec 3).holdoff = some 0 ∧
    ((holding true true).prec 3).claim = none ∧ ((holding true true).prec 3).transfer = none ∧
    ((holding true true).prec 3).command = .none ∧ ((holding true true).prec 3).lockout = false ∧
    ((holding false true).sf 3 = false ∧ (holding false true).sd 3 = false) ∧
    ((holding true true).standing 3 = some .sigfail ∧ (holding true true).firstOpen 3 = some 3) ∧
    ((holding true false).standing 3 = some .sigfail ∧ (holding true false).firstOpen 3 = none) ∧
    (calm.prec 15).holdoff ≠ some 0 :=
  ⟨p3_quiet _ _ _, p3_quiet _ _ _, p3_quiet _ _ _, by decide +kernel⟩

/-- P3 in CLAIMING on S1 as its window runs out. -/
def claiming : State :=
  p3 true true { PortRec.reset with state := .claiming, claim := some ⟨1, .sigfail, false⟩, window := some 0 }

/-- P3 next in a sweep over S1 whose step timer has run out. -/
def sweeping (used : BitVec 16) : State :=
  { p3 false true PortRec.reset with
    config := { calm.config with used := used }
    exr := { calm.exr with nextPort := 3, remaining := 1, spare := 1, mode := .paced, enable := true, stepTimer := some 0 } }

theorem sweeping_quiet : QuietBut (sweeping (BitVec.allOnes 16)) 3 :=
  let h := p3_quiet false true PortRec.reset
  ⟨h.running, h.heard, h.idle, h.queue, rfl, h.demands⟩

theorem sweeping_open : ((sweeping (BitVec.allOnes 16)).prec 3).state = .idle ∧
    ((sweeping (BitVec.allOnes 16)).prec 3).claim = none ∧ (sweeping (BitVec.allOnes 16)).standing 3 = none ∧
    ((sweeping (BitVec.allOnes 16)).prec 3).lockout = false ∧ (sweeping (BitVec.allOnes 16)).used 3 = true ∧
    (sweeping (BitVec.allOnes 16)).inMap 3 1 = true ∧ (sweeping (BitVec.allOnes 16)).usableFor 3 1 = true ∧
    (sweeping (BitVec.allOnes 16)).viewOf 1 = [] :=
  by decide +kernel

/-- P3's exercise on S1 as its claim window runs out. -/
def inWindow : State :=
  { sweeping (BitVec.allOnes 16) with
    exr := { (sweeping 0).exr with step := some ⟨.window, some false, some 0, false, none⟩ } }

theorem inWindow_quiet : QuietBut { inWindow with exr := { inWindow.exr with step := none } } 3 :=
  ⟨rfl, ⟨rfl, rfl⟩, sweeping_quiet.idle, sweeping_quiet.queue, rfl, sweeping_quiet.demands⟩

/-- P3 forced from S1 to S3, as the window of its transfer claim runs out. -/
def transferring : State :=
  p3 false true { PortRec.reset with
    state := .switched, claim := some ⟨1, .forced, true⟩, selection := some 1, command := .forced (some 3)
    transfer := some ⟨3, false⟩, window := some 0 }

theorem witness_ClaimWindowSettlesAndConnects :
    (QuietBut claiming 3 ∧ claiming.drv.inFlight = none ∧ (claiming.prec 3).state = .claiming ∧
      (claiming.prec 3).claim = some ⟨1, .sigfail, false⟩ ∧ (claiming.prec 3).transfer = none ∧
      (claiming.prec 3).window = some 0 ∧ claiming.standing 3 = some .sigfail ∧
      claiming.misaimed 3 1 = false ∧ claiming.causeOn 3 1 .sigfail = false) ∧
    (QuietBut transferring 3 ∧ transferring.drv.inFlight = none ∧ (transferring.prec 3).state = .switched ∧
      (transferring.prec 3).claim = some ⟨1, .forced, true⟩ ∧ (transferring.prec 3).transfer = some ⟨3, false⟩ ∧
      (transferring.prec 3).window = some 0 ∧ transferring.standing 3 = some .forced ∧
      transferring.named 3 = some 3 ∧ transferring.causeOn 3 1 .forced = false ∧
      transferring.causeOn 3 3 .forced = false) ∧
    (QuietBut { inWindow with exr := { inWindow.exr with step := none } } inWindow.exr.nextPort ∧
      inWindow.exr.step = some ⟨.window, some false, some 0, false, none⟩ ∧ inWindow.drv.inFlight = none ∧
      (inWindow.prec 3).state = .idle ∧ (inWindow.prec 3).claim = none ∧ inWindow.standing 3 = none ∧
      (inWindow.prec 3).lockout = false ∧ inWindow.usableFor 3 1 = true ∧ inWindow.peerView 1 = []) ∧
    (calm.prec 15).window ≠ some 0 ∧ calm.exr.step = none :=
  ⟨⟨p3_quiet _ _ _, by decide +kernel⟩, ⟨p3_quiet _ _ _, by decide +kernel⟩, ⟨inWindow_quiet, by decide +kernel⟩,
    by decide +kernel⟩

/-- P3 in WTR on S1 as its timer runs out. -/
def waiting : State :=
  p3 false true { PortRec.reset with
    state := .wtr, claim := some ⟨1, .wtr, true⟩, selection := some 1, wtr := some 0 }

/-- P3 in RELEASING from S1 with its RESTORE in flight, its fibre still dark or not. -/
def restoring (los : Bool) : State :=
  { p3 los true { PortRec.reset with state := .releasing, claim := some ⟨1, .wtr, true⟩, selection := some 1 } with
    drv := { Driver.reset with inFlight := some ⟨3, ⟨.restore, .record, false⟩, some 1, 0⟩ } }

theorem restoring_quiet (los : Bool) : QuietBut (restoring los) 3 :=
  let h := p3_quiet los true { PortRec.reset with state := .releasing, claim := some ⟨1, .wtr, true⟩, selection := some 1 }
  ⟨h.running, h.heard, h.idle, h.queue, h.step, h.demands⟩

theorem witness_WtrEndReleasesTheSpare :
    (QuietBut waiting 3 ∧ waiting.drv.inFlight = none ∧ (waiting.prec 3).state = .wtr ∧
      (waiting.prec 3).claim = some ⟨1, .wtr, true⟩ ∧ (waiting.prec 3).transfer = none ∧
      (waiting.prec 3).selection = some 1 ∧ (waiting.prec 3).wtr = some 0) ∧ (calm.prec 15).wtr ≠ some 0 ∧
    QuietBut (restoring false) 3 ∧ QuietBut (restoring true) 3 ∧
    (∀ los, ((restoring los).prec 3).state = .releasing ∧ ((restoring los).prec 3).selection.isSome = true ∧
      (restoring los).drv.inFlight = some ⟨3, ⟨.restore, .record, false⟩, some 1, 0⟩) ∧
    (restoring false).standing 3 = none ∧ (restoring true).standing 3 = some .sigfail ∧
    (Position.spare 1 ≠ .working ∧ Position.unknown ≠ .working) :=
  ⟨⟨p3_quiet _ _ _, by decide +kernel⟩, by decide +kernel, restoring_quiet false, restoring_quiet true, by decide +kernel⟩

/-- P3 in CONNECTING to S1 with its CONNECT in flight, its fibre still dark or not. -/
def linking (los : Bool) : State :=
  { p3 los true { PortRec.reset with state := .connecting, claim := some ⟨1, .sigfail, true⟩ } with
    drv := { Driver.reset with inFlight := some ⟨3, ⟨.connect 1, .record, false⟩, some 1, 0⟩ } }

theorem linking_quiet (los : Bool) : QuietBut (linking los) 3 :=
  let h := p3_quiet los true { PortRec.reset with state := .connecting, claim := some ⟨1, .sigfail, true⟩ }
  ⟨h.running, h.heard, h.idle, h.queue, h.step, h.demands⟩

/-- P3 in CONNECTING for a fibre that is dark. -/
def connecting : State := linking true

theorem witness_ConnectSuccessSwitchesThePort :
    QuietBut connecting 3 ∧ (connecting.prec 3).state = .connecting ∧
    (connecting.prec 3).claim = some ⟨1, .sigfail, true⟩ ∧ (connecting.prec 3).transfer = none ∧
    (connecting.prec 3).selection = none ∧ (connecting.prec 3).wtr = none ∧
    connecting.standing 3 = some .sigfail ∧ connecting.named 3 = none ∧
    connecting.causeOn 3 1 .sigfail = false ∧
    connecting.drv.inFlight = some ⟨3, ⟨.connect 1, .record, false⟩, some 1, 0⟩ ∧
    (⟨.restore, 3, .error⟩ : DriverAnswer).cmd ≠ .connect ∧ (⟨.connect, 4, .error⟩ : DriverAnswer).port ≠ 3 :=
  ⟨linking_quiet true, by decide +kernel⟩

/-- P3 in CONNECTING with a CONNECT in flight that replaced the UNBRIDGE of a bridge on S3. -/
def linkingOver : State :=
  ({ connecting with
    drv := { Driver.reset with inFlight := some ⟨3, ⟨.connect 1, .record, true⟩, some 1, 0⟩ } } : State).setDport 3
      { PortDrv.reset with bridge := some 3 }

theorem linkingOver_quiet : QuietBut linkingOver 3 := by
  have h := linking_quiet true
  refine ⟨h.running, h.heard, h.idle, ?_, h.step, h.demands⟩
  intro q
  unfold linkingOver
  rw [setDport_dport]
  split
  · exact ⟨rfl, rfl⟩
  · exact h.queue q

theorem witness_AllowanceExpiryFailsThePair :
    (QuietBut connecting 3 ∧ (connecting.prec 3).state = .connecting ∧
      (connecting.prec 3).claim = some ⟨1, .sigfail, true⟩ ∧ (connecting.prec 3).transfer = none ∧
      connecting.drv.inFlight = some ⟨3, ⟨.connect 1, .record, false⟩, some 1, 0⟩) ∧
    (QuietBut linkingOver 3 ∧ (linkingOver.prec 3).state = .connecting ∧
      (linkingOver.prec 3).claim = some ⟨1, .sigfail, true⟩ ∧ (linkingOver.prec 3).transfer = none ∧
      linkingOver.drv.inFlight = some ⟨3, ⟨.connect 1, .record, true⟩, some 1, 0⟩ ∧
      (linkingOver.dport 3).bridge = some 3 ∧ (linkingOver.dport 3).retry = none) ∧
    (QuietBut (linking false) 3 ∧ (linking false).standing 3 = none ∧ calm.drv.inFlight = none) :=
  ⟨⟨linking_quiet true, by decide +kernel⟩, ⟨linkingOver_quiet, by decide +kernel⟩,
    ⟨linking_quiet false, by decide +kernel⟩⟩

/-- P3 with a retry whose timer has run out and a bridge on S3, in the record given. -/
def retrying (k : RetryKind) (r : PortRec) : State :=
  (p3 false true r).setDport 3 { PortDrv.reset with retry := some ⟨k, some 0⟩, bridge := some 3 }

theorem retrying_quiet (k : RetryKind) (r : PortRec) : QuietBut (retrying k r) 3 := by
  have h := p3_quiet false true r
  refine ⟨h.running, h.heard, h.idle, ?_, h.step, h.demands⟩
  intro q
  unfold retrying
  rw [setDport_dport]
  split
  · exact ⟨rfl, rfl⟩
  · exact h.queue q

/-- The shelf with the UNBRIDGE of P3's retry in flight. -/
def takingDown : State :=
  { p3 false true PortRec.reset with
    drv :=
      { ports := ((p3 false true PortRec.reset).setDport 3
          { PortDrv.reset with retry := some ⟨.unbridge, none⟩, bridge := some 3 }).drv.ports
        inFlight := some ⟨3, ⟨.unbridge, .driver, false⟩, some 3, 2⟩ } }

theorem takingDown_quiet : QuietBut takingDown 3 :=
  let h := retrying_quiet .unbridge PortRec.reset
  ⟨h.running, h.heard, h.idle, by decide +kernel, h.step, h.demands⟩

theorem witness_RecoveryForgivesAndRetryAsksAgain :
    (((calm.setPair 15 3 ⟨true, 255, some 0⟩).pair 15 3).timer = some 0 ∧ (calm.pair 15 3).timer ≠ some 0 ∧
      (calm.dport 15).retry = none ∧
      (∀ x, x ≠ 3 → ((calm.setPair 15 3 ⟨true, 255, some 0⟩).pair 15 x).failed = false) ∧
      ((calm.setPair 15 3 ⟨true, 255, some 0⟩).dport 15).mark = false) ∧
    (let r : PortRec := { PortRec.reset with state := .releasing, claim := some ⟨1, .wtr, true⟩, selection := some 1 }
     QuietBut (retrying .restore r) 3 ∧ (retrying .restore r).drv.inFlight = none ∧
      ((retrying .restore r).prec 3).state = .releasing ∧
      ((retrying .restore r).dport 3).retry = some ⟨.restore, some 0⟩) ∧
    (let s := retrying .unbridge PortRec.reset
     QuietBut s 3 ∧ s.drv.inFlight = none ∧ (s.prec 3).state = .idle ∧ (s.prec 3).claim = none ∧
      s.standing 3 = none ∧ (s.dport 3).retry = some ⟨.unbridge, some 0⟩) ∧
    QuietBut takingDown 3 ∧ (takingDown.dport 3).retry = some ⟨.unbridge, none⟩ ∧
    takingDown.drv.inFlight = some ⟨3, ⟨.unbridge, .driver, false⟩, some 3, 2⟩ :=
  ⟨by decide +kernel, ⟨retrying_quiet _ _, by decide +kernel⟩, ⟨retrying_quiet _ _, by decide +kernel⟩,
    takingDown_quiet, by decide +kernel⟩

theorem witness_StepTimerBeginsAStepOrSkips :
    ((sweeping 0).phase = .running ∧ (sweeping 0).exr.stepTimer = some 0 ∧ calm.exr.stepTimer ≠ some 0 ∧ (sweeping 0).exr.enable = true ∧
      (sweeping 0).exr.step = none ∧ (sweeping 0).used (sweeping 0).exr.nextPort = false) ∧
    QuietBut (sweeping (BitVec.allOnes 16)) 3 := ⟨by decide +kernel, sweeping_quiet⟩

/-- P3's exercise on S1 with its UNBRIDGE in flight. -/
def unbridging : State :=
  { sweeping (BitVec.allOnes 16) with
    exr := { (sweeping 0).exr with step := some ⟨.unbridge, some true, none, false, none⟩ }
    drv := { Driver.reset with inFlight := some ⟨3, ⟨.unbridge, .exerciser, false⟩, some 1, 5⟩ } }

/-- P3's exercise on S1 with its BRIDGE in flight. -/
def bridging : State :=
  { sweeping (BitVec.allOnes 16) with
    exr := { (sweeping 0).exr with step := some ⟨.bridge, some true, none, false, none⟩ }
    drv := { Driver.reset with inFlight := some ⟨3, ⟨.bridge 1, .exerciser, false⟩, some 1, 0⟩ } }

theorem bridging_quiet : QuietBut { bridging with exr := { bridging.exr with step := none } } bridging.exr.nextPort :=
  ⟨rfl, ⟨rfl, rfl⟩, sweeping_quiet.idle, sweeping_quiet.queue, rfl, sweeping_quiet.demands⟩

theorem witness_ExerciseEndsAtItsUnbridge :
    (unbridging.phase = .running ∧
      unbridging.exr.step = some ⟨.unbridge, some true, none, false, none⟩ ∧
      unbridging.drv.inFlight = some ⟨3, ⟨.unbridge, .exerciser, false⟩, some 1, 5⟩ ∧
      (3 : Port) = unbridging.exr.nextPort ∧ ∀ x, (unbridging.dport 3).retry ≠ some ⟨.restore, x⟩) ∧
    QuietBut { bridging with exr := { bridging.exr with step := none } } bridging.exr.nextPort ∧
    bridging.exr.step = some ⟨.bridge, some true, none, false, none⟩ ∧
    bridging.drv.inFlight = some ⟨3, ⟨.bridge 1, .exerciser, false⟩, some 1, 0⟩ ∧
    (bridging.prec 3).state = .idle ∧ (bridging.prec 3).claim = none ∧ bridging.standing 3 = none ∧
    (bridging.prec 3).lockout = false ∧ bridging.usableFor 3 1 = true ∧ bridging.peerView 1 = [] :=
  ⟨⟨rfl, rfl, rfl, rfl, by rw [show (unbridging.dport 3).retry = none by decide +kernel]; intro x; simp⟩,
    bridging_quiet, by decide +kernel⟩

/-- Readback with P2 given S1, P3's QUERY in flight, and P9's still queued or not. -/
def querying (more : Bool) : State :=
  ((({ inPhase .readback with
    drv := { Driver.reset with inFlight := some ⟨3, ⟨.query, .driver, false⟩, none, 0⟩ } } : State).setDport 2
      { PortDrv.reset with placed := some 1 })).setDport 9
        { PortDrv.reset with queue := if more then some ⟨.query, .driver, false⟩ else none }

theorem witness_ReadbackQueryPlacesThePort :
    (∀ more, (querying more).phase = .readback ∧ ((querying more).dport 3).queue = none ∧
      ((querying more).dport 3).waiting = none ∧
      (querying more).drv.inFlight = some ⟨3, ⟨.query, .driver, false⟩, none, 0⟩ ∧
      (2 : Port) < 3 ∧ ((querying more).dport 2).placed = some 1 ∧ (querying more).used 3 = true ∧
      ∀ q, q < 3 → ((querying more).dport q).placed ≠ some 3) ∧
    (∀ q, q ≠ 3 → ((querying false).dport q).queue = none ∧ ((querying false).dport q).waiting = none) ∧
    ((querying true).dport 9).queue ≠ none := by decide +kernel

/-- The listen period with P3 found on S1, its fibre dark or not. -/
def placing (los : Bool) : State :=
  { p3 los true { PortRec.reset with state := .switched, claim := some ⟨1, .undecided, true⟩, selection := some 1 } with
    phase := .listening, listenTimer := some 0 }

theorem placing_quiet (los : Bool) : QuietBut { placing los with phase := .running } 3 :=
  let h := p3_quiet los true { PortRec.reset with state := .switched, claim := some ⟨1, .undecided, true⟩, selection := some 1 }
  ⟨h.running, h.heard, h.idle, h.queue, h.step, h.demands⟩

theorem witness_ListenPeriodEndsInRunning :
    ((inPhase .listening).listenTimer ≠ some 0 ∧
      { inPhase .listening with listenTimer := some 0 }.listenTimer = some 0 ∧ (inPhase .listening).peers.unheard = false ∧
      (inPhase .listening).peers.unheardTimer = none) ∧
    (∀ los, QuietBut { placing los with phase := .running } 3) ∧
    (∀ los, (placing los).phase = .listening ∧ (placing los).listenTimer = some 0 ∧ (placing los).peers.unheard = false ∧
      (placing los).peers.unheardTimer = none ∧ ((placing los).prec 3).state = .switched ∧
      ((placing los).prec 3).claim = some ⟨1, .undecided, true⟩ ∧ ((placing los).prec 3).transfer = none ∧
      ((placing los).prec 3).command = .none ∧ ((placing los).prec 3).lockout = false ∧
      (placing los).usableFor 3 1 = true ∧ (placing los).peerView 1 = [] ∧ (placing los).sf 3 = los ∧
      (placing los).sd 3 = false) :=
  ⟨by decide +kernel, placing_quiet, by decide +kernel⟩

theorem idle_sound (s : State) (h : s.prot = Protection.reset) (p : Port) : s.prec p = PortRec.reset := by
  unfold State.prec; rw [h]; exact tget_tconst _ p

theorem calm_records : RecordsSound calm where
  each := fun p => by rw [idle_sound calm rfl p]; constructor <;> decide
  before := fun _ h => absurd rfl h
  listening := fun h => absurd h (by decide)

theorem witness_IsolatedStationHoldsNoOpenClaim :
    let s : State := { calm with peers := { calm.peers with isolated := true, silence := none } }
    RecordsSound s ∧ (s.phase = .running ∧ s.cutOff = true) ∧ (∀ p, (s.prec p).state ≠ .claiming ∧
      (s.prec p).state ≠ .connecting ∧ (s.prec p).state ≠ .switched ∧ (s.prec p).state ≠ .wtr) ∧
    ∃ t, exec .lineActivity s = .next t ∧ t.phase = .running ∧ t.cutOff = true := by
  refine ⟨⟨calm_records.each, calm_records.before, calm_records.listening⟩, ⟨rfl, rfl⟩, ?_, _, rfl, rfl, rfl⟩
  decide +kernel

theorem witness_RecordsAgreeWithTheirState : RecordsSound calm ∧ ∃ t, step calm = .next t :=
  ⟨calm_records, _, rfl⟩

/-- P3's fibre dark and its record wanting S3, which P5 is giving back. -/
def demanding : State :=
  let s := (p3 true true { PortRec.reset with state := .seeking }).setPrec 5 { PortRec.reset with
    state := .releasing, claim := some ⟨3, .wtr, true⟩, selection := some 3 }
  { s with prot := { s.prot with demands := tset (tconst 4 none) 3 (some 3) } }

theorem demanding_records : RecordsSound demanding where
  each := fun p => ⟨by revert p; decide +kernel, by revert p; decide +kernel, by revert p; decide +kernel,
    by revert p; decide +kernel⟩
  before := fun _ h => absurd rfl h
  listening := fun h => absurd h (by decide)

theorem witness_DemandsAreWantedAndYieldedTo : RecordsSound demanding ∧ DemandsSound demanding ∧
    tget demanding.prot.demands 3 = some 3 ∧ demanding.recordEntries 3 5 ≠ [] ∧ ∃ t, step demanding = .next t :=
  ⟨demanding_records, ⟨by decide +kernel, by decide +kernel⟩, by decide +kernel, by decide +kernel, _, rfl⟩

theorem witness_ArbiterStartsTheFirstInOrder :
    let r : Entry := ⟨.restore, .record, false⟩
    let c : Entry := ⟨.connect 1, .record, false⟩
    let b : Entry := ⟨.bridge 2, .exerciser, false⟩
    let q : Entry := ⟨.query, .driver, false⟩
    let u : Entry := ⟨.unbridge, .driver, false⟩
    let s := putQueue (putQueue (putQueue calm 0 (some b)) 3 (some c)) 15 (some r)
    let s' := putQueue (putQueue (withRec { PortRec.reset with claim := some ⟨1, .sigfail, true⟩ }) 0 (some b)) 3 (some c)
    let t := putQueue (putQueue calm 0 (some u)) 15 (some q)
    connecting.drv.inFlight.isSome = true ∧ (∀ p, (calm.dport p).queue = none) ∧
    (s.drv.inFlight = none ∧ (s.dport 15).queue = some r ∧ (s.dport 3).queue = some c ∧ (s.dport 0).queue = some b ∧
      ∀ p, p ≠ 15 → p ≠ 3 → p ≠ 0 → (s.dport p).queue = none) ∧
    (s'.drv.inFlight = none ∧ (s'.prec 3).claim = some ⟨1, .sigfail, true⟩ ∧ (s'.dport 3).queue = some c ∧
      (s'.dport 0).queue = some b ∧ ∀ p, p ≠ 3 → p ≠ 0 → (s'.dport p).queue = none) ∧
    (t.drv.inFlight = none ∧ (t.dport 15).queue = some q ∧ (t.dport 0).queue = some u ∧
      ∀ p, p ≠ 15 → p ≠ 0 → (t.dport p).queue = none) := by
  decide +kernel

/-! ### Timing -/

/-- OCA as given in normal running. -/
def oca (st : CandState) (noEdges sigFail gate : Bool) : State :=
  withOca { CandRec.start false with state := st, noEdges := noEdges, sigFail := sigFail, gate := gate }

theorem witness_EdgesAndGatesOfACandidate :
    (oca .qualified false false true).phase = .running ∧ (lineOf 0).isNone = true ∧ (lineOf 6).isNone = true ∧
    (((oca .qualified false false true).cand 0).state ≠ .unused ∧
      ((oca .qualified false false true).cand 0).sigFail = false ∧
      ((oca .qualified false false true).cand 0).gate = true ∧ (oca .qualified false false true).fails 0 = false) ∧
    (((oca .failed true true false).cand 0).noEdges = true ∧ ((oca .failed true true false).cand 0).sigFail = true ∧
      ((oca .failed true true false).cand 0).state = .failed ∧ (oca .failed true true false).failCauses 0 = [.noEdges]) ∧
    ((oca .failed false true false).cand 0).noEdges = false ∧
    (((oca .lockedout false false false).cand 0).gate = false ∧
      ((oca .lockedout false false false).cand 0).state = .lockedout ∧
      ((oca .lockedout false false false).cand 0).sigFail = false) ∧
    ((oca .lockedout true true false).cand 0).sigFail = true := by decide +kernel

theorem witness_GateCompletionMeasuresAndJudges :
    let s := oca .qualifying false false true
    s.phase = .running ∧ (s.cand 0).gate = true ∧ (s.cand 0).sigFail = false ∧ s.fails 0 = false ∧
    (s.cand 0).state = .qualifying ∧ s.config.accept ≤ s.config.reject ∧
    -- d 115 accepted, 116 between the limits, 151 beyond reject, 2500 saturated
    (25000000 - ((24999885 : Nat) : Int)).natAbs = s.config.accept ∧
    s.config.accept < (25000000 - ((24999884 : Nat) : Int)).natAbs ∧
    s.config.reject < (25000000 - ((24999849 : Nat) : Int)).natAbs ∧ (2047 : Int) < 25000000 - ((24997500 : Nat) : Int) ∧
    (s.cand 0).good < 2 ∧ (s.cand 0).f = none ∧ ((oca .qualifying false false false).cand 0).gate = false := by
  decide +kernel

theorem locked_sound : TimingSound locked where
  qualified := by decide +kernel
  state := by decide +kernel
  judged := by intro _; decide +kernel

theorem witness_SelectedCompletionCorrectsK :
    locked.phase = .running ∧ TimingSound locked ∧ (locked.cand 0).gate = true ∧ (locked.cand 0).sigFail = false ∧
    (locked.cand 0).state ≠ .unused ∧ locked.tim.selection = some 0 ∧ locked.freq.state = .locked ∧
    (completeGate locked 0 24999990).tim.selection = some 0 ∧
    (completeGate (oca .qualifying false false true) 0 24999990).tim.selection ≠ some 0 :=
  ⟨rfl, locked_sound, by decide +kernel⟩

theorem calm_timing : TimingSound calm where
  qualified := by decide +kernel
  state := by decide +kernel
  judged := by intro _; decide +kernel

theorem witness_SecondsTickAndHoldoverTimer :
    State.reset.settled = false ∧ calm.settled = true ∧ calm.freq.state = .freerun ∧ locked.freq.state = .locked ∧
    ((hot 0 200).freq.state = .holdover ∧ (hot 0 200).freq.h = some (-841) ∧ (hot 0 200).freq.tEntry = some 200 ∧
      (hot 0 200).freq.hoTimer = some 0) ∧
    (hot 0 200).phase = .running ∧ TimingSound (hot 0 200) ∧ (hot 0 200).config.hoLimit ≠ 0 ∧
    (∀ c, ((hot 0 200).cand c).state ≠ .qualified) ∧ calm.freq.state ≠ .holdover :=
  ⟨rfl, rfl, rfl, rfl, ⟨rfl, rfl, rfl, rfl⟩, rfl,
    ⟨by decide +kernel, by decide +kernel, by intro _; decide +kernel⟩, by decide +kernel⟩

theorem witness_KMovesBySlewAlone : (∀ straps, Instr.secondsTick 9 ≠ .fullReset straps) ∧
    -32767 ≤ ({ Frequency.reset with k := -32767 } : Frequency).k ∧ ({ Frequency.reset with k := 32767 } : Frequency).k ≤ 32767 ∧
    ∃ t, exec (.secondsTick 9) { calm with freq := { Frequency.reset with k := 32767 } } = .next t :=
  ⟨fun _ => nofun, by decide, by decide, _, rfl⟩

theorem witness_SelectionStaysQualified : TimingSound locked ∧ ∃ t, step locked = .next t := ⟨locked_sound, _, rfl⟩

theorem witness_AnnouncedTimingFollowsItsRules :
    AnnounceSound { calm with tim := { calm.tim with trace := [4] } } ∧
    ∃ t, step { calm with tim := { calm.tim with trace := [4] } } = .next t :=
  ⟨fun _ => by decide +kernel, _, rfl⟩

theorem witness_CapacitiesAndRangesHold : Bounded calm ∧ HaltQuiet calm ∧ ∃ t, step calm = .next t :=
  ⟨⟨by decide, by decide, by decide, by decide, by decide, by decide, by decide +kernel, by decide +kernel,
    by decide +kernel⟩, fun h => absurd h (by decide), _, rfl⟩

theorem witness_LinesAndSummaryFollowThePoints : AlarmSound (inPhase .readback) ∧ ∃ t, step (inPhase .readback) = .next t :=
  ⟨⟨by decide +kernel, by decide +kernel, by decide +kernel, by decide +kernel⟩, _, rfl⟩

/-! ### Alarm points -/

/-- A point of the calm shelf in normal running: FREERUN and SQUELCH are reported. -/
def calmPoint (i : Fin 158) : Point := { Point.reset i with reported := i.val == 155 || i.val == 157 }

/-- The calm shelf with its points worked out. -/
def watched : State := { calm with alm := { calm.alm with points := tab calmPoint } }

theorem watched_point (i : Fin 158) : tget watched.alm.points i = calmPoint i := tget_tab _ i

theorem exists_mem (l : List Nat) (f : Fin 158 → Bool) :
    (∃ j : Fin 158, j.val ∈ l ∧ f j = true) ↔ l.any (fun n => if h : n < 158 then f ⟨n, h⟩ else false) = true := by
  rw [List.any_eq_true]
  constructor
  · rintro ⟨j, hj, hf⟩
    exact ⟨j.val, hj, by rw [dif_pos j.isLt]; exact hf⟩
  · rintro ⟨n, hn, hf⟩
    split at hf
    · exact ⟨⟨n, ‹_›⟩, hn, hf⟩
    · exact absurd hf (by decide)

theorem watched_sound : PointsSound watched where
  active := by simp only [watched_point]; decide +kernel
  portMasked := by simp only [watched_point]; decide +kernel
  masked := by simp only [watched_point]; decide +kernel
  suppressed := by
    intro i
    simp only [watched_point]
    rw [exists_mem (suppressorsOf i.val) fun j => (calmPoint j).active]
    revert i
    decide +kernel
  portSeverity := by simp only [watched_point]; decide +kernel
  severity := by simp only [watched_point]; decide +kernel
  reported := by intro _; simp only [watched_point]; decide +kernel
  latched := by intro _; simp only [watched_point]; decide +kernel
  quiet := fun h => absurd rfl h
  acked := by simp only [watched_point]; decide +kernel

theorem witness_PointsFollowTheirConditions : PointsSound watched ∧ ∃ t, step watched = .next t :=
  ⟨watched_sound, _, rfl⟩

theorem witness_ChangesOfReportsAreLogged : PointsSound watched ∧ watched.phase = .running ∧
    ∃ t, exec .lineActivity watched = .next t ∧ t.phase = .running := ⟨watched_sound, rfl, _, rfl, rfl⟩

/-! ### Requests -/

theorem calm_takes : Takes calm 30 4 :=
  ⟨rfl, by decide, rfl, by decide, by decide, by decide +kernel, by decide +kernel⟩

theorem witness_RequestsAreJudgedInOrder :
    requestOf (.slkOn 30 4 4) = some (30, 4, [13, 4, 1]) ∧ requestOf (.stat 29 4) = some (29, 4, [1]) ∧
    (requestOf (.logr 30 63 1) = some (30, 63, [6, 1]) ∧ ([6, 1] : List Byte) ≠ [10] ∧ ([6, 1] : List Byte) ≠ [11]) ∧
    State.reset.settled = false ∧ (withLine fun l => { l with rx := .ignoring }).line.rx = .ignoring ∧
    (calm.settled = true ∧ calm.line.rx ≠ .ignoring ∧ (30 : Station) ≠ calm.own ∧ (29 : Station) ≠ calm.own ∧
      targetOk 4 = true ∧ targetOk 5 = true ∧ targetOk 63 = true) ∧
    (restarting 0).restartPending = true ∧ ((5#6).toNat ≠ 63 ∧ (5#6).toNat ≠ calm.own.val) ∧
    ((4#6).toNat = calm.own.val ∧ 2 ≤ (working false none [⟨30, []⟩, ⟨30, []⟩] false).line.responses.length) ∧
    (calm.restartPending = false ∧ calm.line.responses.length < 2) ∧
    ((29 : Station).val < 30 ∧ 30 ≤ (30 : Station).val ∧ (inPhase .listening).settled = true ∧
      (inPhase .listening).phase ≠ .running) ∧
    Takes calm 30 4 ∧ (Instr.slkOn 30 4 4).wellFormed = false ∧ Instr.slkOn 30 4 4 ≠ .lrn 30 4 255 :=
  ⟨rfl, rfl, ⟨rfl, by decide⟩, rfl, rfl, by decide +kernel, rfl, by decide +kernel, by decide +kernel, by decide +kernel,
    by decide +kernel, calm_takes, by decide +kernel⟩

theorem witness_ReadRequestsAnswerTheState : Takes calm 30 4 := calm_takes

theorem witness_LogAndCaptureReadsRemoveTheOldest :
    let s : State := { calm with cap := ⟨[⟨19, none, none, 7, .lost⟩], true⟩ }
    Takes s 30 4 ∧ s.cap.queue = ⟨19, none, none, 7, .lost⟩ :: [] ∧ calm.cap.queue = [] ∧
    0 < min (max 1 (min 8 (0#8).toNat)) [(⟨0, 0, .raised, .minor⟩ : LogRec)].length :=
  ⟨⟨rfl, by decide, rfl, by decide, by decide, by decide +kernel, by decide +kernel⟩, rfl, rfl, by decide⟩

theorem witness_LearnTakesTheDecodedIdentity :
    Takes calm 30 4 ∧
    (let s : State := { calm with dec := { calm.dec with recvs := tconst 20 ⟨none, 0, 0, some ⟨41, 12, 19⟩, none⟩ } }
     Takes s 30 4 ∧ (s.decv 19).ident = some ⟨41, 12, 19⟩ ∧ 16 ≤ (19#5).toNat ∧ (19#5).toNat ≤ 19) ∧
    (calm.decv 0).ident = none ∧
    (let s : State := { calm with dec := { calm.dec with recvs := tconst 20 ⟨none, 0, 0, some ⟨41, 12, 20⟩, none⟩ } }
     16 ≤ (16 : Recv).val ∧ ∃ i, (s.decv 16).ident = some i ∧ ¬(16 ≤ i.port.toNat ∧ i.port.toNat ≤ 19)) :=
  ⟨calm_takes, ⟨⟨rfl, by decide, rfl, by decide, by decide, by decide +kernel, by decide +kernel⟩, by decide +kernel,
    by decide, by decide⟩, by decide +kernel, by decide, ⟨41, 12, 20⟩, by decide +kernel, by decide⟩

theorem witness_MaskActsOnTimAndOnThePoints : Takes calm 30 4 := calm_takes

theorem witness_ClrlAndAcoActOnThePoints :
    calm.phase = .running ∧ calm.line.rx ≠ .ignoring ∧ calm.restartPending = false ∧ 30 ≤ (31 : Station).val ∧
    (31 : Station) ≠ calm.own ∧ (63#6).toNat = 63 ∧ (4#6).toNat = calm.own.val ∧ calm.line.responses.length < 2 ∧
    calm.cond (pointOf 79).1 (pointOf 79).2 = false ∧ (lit true true).cond (pointOf 3).1 (pointOf 3).2 = true := by
  decide +kernel

theorem witness_PswIsCheckedThenTaken :
    Takes calm 30 4 ∧ State.used { calm with config := { calm.config with used := 0 } } 15 = false ∧
    calm.used 15 = true ∧ (∃ sp, some (0 : Spare) = some sp ∧
      State.inMap { calm with config := { calm.config with maps := tconst 16 ⟨0, 0⟩ } } 15 sp = false) ∧
    ((withRec { PortRec.reset with lockout := true }).prec 3).lockout = true ∧ (calm.prec 15).lockout = false ∧
    (lit true true).sf 3 = true ∧ calm.sf 15 = false ∧ calm.sd 15 = false ∧
    (∃ y, ((withRec { PortRec.reset with command := .forced none }).prec 3).command = .forced y) ∧
    ¬∃ y, (calm.prec 15).command = .forced y :=
  ⟨calm_takes, by decide +kernel, by decide +kernel, ⟨0, rfl, by decide +kernel⟩, by decide +kernel, by decide +kernel,
    by decide +kernel, by decide +kernel, by decide +kernel, ⟨none, by decide +kernel⟩,
    by rw [show (calm.prec 15).command = .none by decide +kernel]; simp⟩

theorem witness_SpareLockoutMakesAndWithdrawsItsClaim : Takes calm 30 4 ∧ tget calm.prot.spareLock 3 ≠ true ∧
    tget (lockSpare calm 3 true).prot.spareLock 3 ≠ false := ⟨calm_takes, by decide +kernel⟩

theorem witness_TrefMovesTheSelection : Takes calm 30 4 ∧
    ((calm.cand 6).state = .unused ∧ (calm.cand 0).state ≠ .unused ∧ (calm.cand 0).state ≠ .lockedout) ∧
    (oca .lockedout false false false).cand 0 = { CandRec.start false with state := .lockedout } ∧
    calm.tim.force ≠ some 0 ∧ ({ calm.tim with force := some 0 } : Timing).force = some 0 :=
  ⟨calm_takes, by decide +kernel, by decide +kernel, by decide +kernel, rfl⟩

theorem sweeping_takes : Takes (sweeping (BitVec.allOnes 16)) 30 4 :=
  ⟨rfl, by decide +kernel, rfl, by decide +kernel, by decide, by decide +kernel, by decide +kernel⟩

theorem inWindow_takes : Takes inWindow 30 4 :=
  ⟨rfl, by decide +kernel, rfl, by decide +kernel, by decide, by decide +kernel, by decide +kernel⟩

theorem witness_SweepRequestsSetAndStepTheDescriptor :
    Takes calm 30 4 ∧ calm.exr.step = none ∧ calm.exr.enable = false ∧ (sweeping 0).exr.enable = true ∧
    ((sweeping 0).exr.mode = .paced ∧ (sweeping 0).used (sweeping 0).exr.nextPort = false) ∧
    Takes (sweeping (BitVec.allOnes 16)) 30 4 ∧ QuietBut (sweeping (BitVec.allOnes 16)) 3 ∧
    Takes inWindow 30 4 ∧ inWindow.exr.step = some ⟨.window, some false, some 0, false, none⟩ ∧
    QuietBut { inWindow with exr := { inWindow.exr with step := none } } 3 ∧ inWindow.usableFor 3 1 = true ∧
    inWindow.peerView 1 = [] :=
  ⟨calm_takes, rfl, rfl, rfl, by decide +kernel, sweeping_takes, sweeping_quiet, inWindow_takes, rfl,
    inWindow_quiet, by decide +kernel⟩

theorem witness_PairClearForgives : Takes calm 30 4 ∧ ((15 : Port) ≠ 3 ∨ (3 : Spare) ≠ 3) :=
  ⟨calm_takes, by decide⟩

end Sys2Proof.Machine.Tests
end

section
/-! SUPPORT. Runs of samples at a condition (O13, O12): what one sample does in each of the two states, then a run. -/

namespace Sys2Proof.Machine

/-! ## One sample (R5) -/

/-- Any sample but a raise sample leaves an inactive condition inactive and breaks its run. -/
theorem Condition.take_inactive_break (k n : Nat) (x : Bool) : Condition.take ⟨false, k⟩ n false x = ⟨false, 0⟩ := rfl

/-- Any sample but a clear sample leaves an active condition active and breaks its run. -/
theorem Condition.take_active_break (k n : Nat) (x : Bool) : Condition.take ⟨true, k⟩ n x false = ⟨true, 0⟩ := rfl

/-- A sample of the wanted kind: raise for an inactive condition, clear for an active one. -/
theorem Condition.take_wanted {c : Condition} {n : Nat} {raise clear : Bool}
    (h : (if c.active then clear else raise) = true) :
    c.take n raise clear = if n ≤ c.count + 1 then ⟨!c.active, 0⟩ else ⟨c.active, c.count + 1⟩ := by
  simp only [Condition.take, h, if_true]

/-! ## A run of samples -/

/-- Samples of the wanted kind, fewer than the target, are counted. -/
theorem Condition.take_iterate_of_lt {b raise clear : Bool} {n : Nat} (h : (if b then clear else raise) = true) :
    ∀ k, k < n → (fun c : Condition => c.take n raise clear)^[k] ⟨b, 0⟩ = ⟨b, k⟩
  | 0, _ => rfl
  | k + 1, hk => by
    rw [Function.iterate_succ_apply', Condition.take_iterate_of_lt h k (by omega), Condition.take_wanted h,
      if_neg (by simpa using hk)]

/-- The sample that completes the target run changes the condition and sets its counter to 0. -/
theorem Condition.take_iterate_target {b raise clear : Bool} {n : Nat} (h : (if b then clear else raise) = true)
    (hn : 0 < n) :
    (fun c : Condition => c.take n raise clear)^[n] ⟨b, 0⟩ = ⟨!b, 0⟩ := by
  obtain ⟨k, rfl⟩ : ∃ k, n = k + 1 := ⟨n - 1, by omega⟩
  rw [Function.iterate_succ_apply', Condition.take_iterate_of_lt h k (by omega), Condition.take_wanted h, if_pos le_rfl]

/-- Settles O13: both directions are one run, told apart by the state it starts in. -/
theorem conditionChangesAtItsTarget : Obligations.ConditionChangesAtItsTarget := fun n x hn =>
  ⟨Condition.take_iterate_of_lt rfl, Condition.take_iterate_target rfl hn,
    Condition.take_iterate_of_lt rfl, Condition.take_iterate_target rfl hn,
    fun k => ⟨Condition.take_inactive_break k n x, Condition.take_active_break k n x⟩⟩

/-! ## LOS and the other two conditions of a receiver -/

/-- LOS is counted from the light flag alone (R6). -/
theorem RecvScan.count_los (r : RecvScan) (g : Config) (x : Sample) :
    (r.count g x).los = r.los.take 2 x.lol (!x.lol) := rfl

/-- A condition without raise samples stays inactive. -/
theorem Condition.take_stays_inactive {c : Condition} (n : Nat) (x : Bool) (h : c.active = false) :
    (c.take n false x).active = false := by
  simp [Condition.take, h]

/-- Counting a run of one sample counts a run at each of the conditions. -/
theorem RecvScan.count_iterate (g : Config) (x : Sample) (r : RecvScan) (n : Nat) :
    let y := (fun r : RecvScan => r.count g x)^[n] r
    y.los = (fun c : Condition => c.take 2 x.lol (!x.lol))^[n] r.los ∧
    y.low = (fun c : Condition => c.take 3 (decide (x.code.toNat < g.failThr))
      (decide (g.failClear ≤ x.code.toNat)))^[n] r.low ∧
    y.deg = (fun c : Condition => c.take g.soak (decide (x.code.toNat < g.degThr))
      (decide (g.degClear ≤ x.code.toNat)))^[n] r.deg := by
  induction n generalizing r with
  | zero => exact ⟨rfl, rfl, rfl⟩
  | succ n ih => exact ih (r.count g x)

/-- Light without the flag never raises LOS. -/
theorem RecvScan.count_iterate_los_inactive (g : Config) (x : Sample) (hx : x.lol = false) (n : Nat) (r : RecvScan)
    (hr : r.los.active = false) : ((fun r : RecvScan => r.count g x)^[n] r).los.active = false := by
  induction n generalizing r with
  | zero => exact hr
  | succ n ih => exact ih _ (by rw [RecvScan.count_los, hx]; exact Condition.take_stays_inactive 2 _ hr)

/-- Settles O12: two samples are a run at LOS's target of 2; LOW and DEG run beside it on the power code. -/
theorem losFollowsTheLightFlagAlone : Obligations.LosFollowsTheLightFlagAlone := by
  intro g r a b
  refine ⟨?_, ?_, ?_, ?_⟩
  · intro hr ha hb
    simp [RecvScan.count_los, hr, ha, hb, Condition.take]
  · intro hr ha hb
    simp [RecvScan.count_los, hr, ha, hb, Condition.take]
  · intro hab
    rw [RecvScan.count_los, RecvScan.count_los, hab]
  · intro ha hcode hlos hlow hdeg hfail hdegThr hsoak
    obtain ⟨-, low, -⟩ := RecvScan.count_iterate g a r 3
    obtain ⟨-, -, deg⟩ := RecvScan.count_iterate g a r g.soak
    have lowRaise : decide (a.code.toNat < g.failThr) = true := by simpa [hcode] using hfail
    have degRaise : decide (a.code.toNat < g.degThr) = true := by simpa [hcode] using hdegThr
    refine ⟨fun n => RecvScan.count_iterate_los_inactive g a ha n r hlos, ?_, ?_⟩
    · rw [low, hlow, lowRaise, Condition.take_iterate_target rfl (by decide)]; rfl
    · rw [deg, hdeg, degRaise, Condition.take_iterate_target rfl hsoak]; rfl

end Sys2Proof.Machine
end

section
/-! SUPPORT. The settling of an image (O9): the clamps, the free holdover QL, the breakpoints, and what no replacement
says of each field. -/

namespace Sys2Proof.Machine

/-! ## The clamps -/

theorem clampNat_range {lo hi : Nat} (h : lo ≤ hi) (x : Nat) : lo ≤ clampNat lo hi x ∧ clampNat lo hi x ≤ hi := by
  unfold clampNat
  split
  · omega
  · split <;> omega

theorem clampNat_eq_self {lo hi x : Nat} (h : lo ≤ x) (g : x ≤ hi) : clampNat lo hi x = x := by
  unfold clampNat
  rw [if_neg (by omega), if_neg (by omega)]

/-- The range holds for every value that log 9 leaves open. -/
theorem settledHoQl_range (x : Byte) : 2 ≤ settledHoQl x ∧ settledHoQl x ≤ 6 := by
  unfold settledHoQl
  split
  · have := Config.holdoverQlOfZero.isLt; omega
  · exact clampNat_range (by decide) _

theorem settledHoQl_eq_self {x : Byte} (h : 2 ≤ x.toNat) (g : x.toNat ≤ 6) : settledHoQl x = x.toNat := by
  unfold settledHoQl
  rw [if_neg (by omega), clampNat_eq_self h g]

theorem settledBreaks_range (a b : BitVec 16) :
    (settledBreaks a b).1 < (settledBreaks a b).2 ∧ (settledBreaks a b).2 ≤ 511 := by
  unfold settledBreaks
  dsimp only
  split
  · exact ⟨by assumption, Nat.min_le_left _ _⟩
  · decide

theorem settledUpstream_sound {own n : Station} {u : Option Station} (h : settledUpstream own u = some n) :
    n ≠ own ∧ n.val < 30 := by
  simpa using (Option.filter_eq_some_iff.1 h).2

theorem settledNominee_used {used : BitVec 16} {p : Port} {x : Option Port} (h : settledNominee used x = some p) :
    used.getLsbD p.val = true := (Option.filter_eq_some_iff.1 h).2

/-- What it says of each field that no field of the image is replaced. -/
structure Unreplaced (i : RawImage) (own : Station) : Prop where
  failThr : i.failThr.toNat ≤ i.degThr.toNat
  hyst : i.hyst.toNat ≤ 15
  soak : 100 ≤ i.soak.toNat ∧ i.soak.toNat ≤ 1000
  holdoff : i.holdoff.toNat ≤ 100
  wtr : i.wtr.toNat ≠ 0 ∧ i.wtr.toNat ≤ 15
  ql : ∀ c, (tget i.ql c).toNat ≠ 0 ∧ (tget i.ql c).toNat ≤ 6
  nominated : ∀ c, settledNominee i.used (tget i.nominated c) = tget i.nominated c
  upstream : settledUpstream own i.upstream = i.upstream
  reject : i.reject.toNat ≠ 0
  accept : i.accept.toNat ≠ 0 ∧ i.accept.toNat ≤ max 1 i.reject.toNat
  hoQl : 2 ≤ i.hoQl.toNat ∧ i.hoQl.toNat ≤ 6
  squelchMin : i.squelchMin.toNat ≠ 0 ∧ i.squelchMin.toNat ≤ 6
  slew : i.slew.toNat ≠ 0 ∧ i.slew.toNat ≤ 64
  breaks : settledBreaks i.tb1 i.tb2 = (i.tb1.toNat, i.tb2.toNat)

theorem unreplaced_of_imageReplaced {i : RawImage} {own : Station} (h : imageReplaced i own = false) :
    Unreplaced i own := by
  simp only [imageReplaced, Bool.or_eq_false_iff, decide_eq_false_iff_not, not_lt, not_not, List.any_eq_false,
    mem_idx, forall_const, Bool.or_eq_true, decide_eq_true_eq, not_or, ne_eq, and_assoc] at h
  obtain ⟨failThr, hyst, soakLo, soakHi, holdoff, wtrLo, wtrHi, ql, nominated, upstream, reject, acceptLo, acceptHi,
    hoQlLo, hoQlHi, sqLo, sqHi, slewLo, slewHi, breaks⟩ := h
  exact ⟨failThr, hyst, ⟨soakLo, soakHi⟩, holdoff, ⟨wtrLo, wtrHi⟩, ql, nominated, upstream, reject,
    ⟨acceptLo, acceptHi⟩, ⟨hoQlLo, hoQlHi⟩, ⟨sqLo, sqHi⟩, ⟨slewLo, slewHi⟩, breaks⟩

/-! ## The settled image -/

/-- Each clamped field lies in the range of its table (R9, R68, R130, R148). -/
theorem settleImage_range (i : RawImage) (own : Station) : let g := settleImage i own
    g.failThr ≤ g.degThr ∧ g.degThr ≤ 255 ∧
      g.failThr ≤ g.failClear ∧ g.failClear ≤ min 255 (g.failThr + 15) ∧
      g.degThr ≤ g.degClear ∧ g.degClear ≤ min 255 (g.degThr + 15) ∧
      100 ≤ g.soak ∧ g.soak ≤ 1000 ∧ g.holdoff ≤ 100 ∧ 1 ≤ g.wtr ∧ g.wtr ≤ 15 ∧
      (∀ c, 1 ≤ tget g.ql c ∧ tget g.ql c ≤ 6) ∧ 1 ≤ g.accept ∧ g.accept ≤ g.reject ∧ g.reject ≤ 2047 ∧
      2 ≤ g.hoQl ∧ g.hoQl ≤ 6 ∧ 1 ≤ g.squelchMin ∧ g.squelchMin ≤ 6 ∧ 1 ≤ g.slew ∧ g.slew ≤ 64 ∧
      g.tb1 < g.tb2 ∧ g.tb2 ≤ 511 ∧ (∀ n, g.upstream = some n → n ≠ own ∧ n.val < 30) ∧
      (∀ c p, tget g.nominated c = some p → g.used.getLsbD p.val = true) := by
  have deg := i.degThr.isLt
  have reject := i.reject.isLt
  have soak := clampNat_range (lo := 100) (hi := 1000) (by decide) i.soak.toNat
  have wtr := clampNat_range (lo := 1) (hi := 15) (by decide) i.wtr.toNat
  have ql := fun c => clampNat_range (lo := 1) (hi := 6) (by decide) (tget i.ql c).toNat
  have hoQl := settledHoQl_range i.hoQl
  have sq := clampNat_range (lo := 1) (hi := 6) (by decide) i.squelchMin.toNat
  have slew := clampNat_range (lo := 1) (hi := 64) (by decide) i.slew.toNat
  have breaks := settledBreaks_range i.tb1 i.tb2
  dsimp only [settleImage]
  refine ⟨by omega, by omega, by omega, by omega, by omega, by omega, soak.1, soak.2, by omega, wtr.1, wtr.2,
    fun c => by simpa using ql c, by omega, by omega, by omega, hoQl.1, hoQl.2, sq.1, sq.2, slew.1, slew.2, breaks.1,
    breaks.2, fun n h => settledUpstream_sound h, fun c p h => settledNominee_used (x := tget i.nominated c) ?_⟩
  simpa using h

/-- An image of which nothing is replaced stands in force field by field (R201). -/
theorem Unreplaced.settled {i : RawImage} {own : Station} (h : Unreplaced i own) : let g := settleImage i own
    g.failThr = i.failThr.toNat ∧ g.failClear = min 255 (i.failThr.toNat + i.hyst.toNat) ∧
      g.degClear = min 255 (i.degThr.toNat + i.hyst.toNat) ∧ g.soak = i.soak.toNat ∧
      g.holdoff = i.holdoff.toNat ∧ g.wtr = i.wtr.toNat ∧ (∀ c, tget g.ql c = (tget i.ql c).toNat) ∧
      g.accept = i.accept.toNat ∧ g.reject = i.reject.toNat ∧ g.hoQl = i.hoQl.toNat ∧
      g.squelchMin = i.squelchMin.toNat ∧ g.slew = i.slew.toNat ∧ g.tb1 = i.tb1.toNat ∧ g.tb2 = i.tb2.toNat ∧
      g.upstream = i.upstream ∧ ∀ c, tget g.nominated c = tget i.nominated c := by
  obtain ⟨failThr, hyst, soak, holdoff, wtr, ql, nominated, upstream, reject, accept, hoQl, sq, slew, breaks⟩ := h
  have pos : ∀ {n : Nat}, n ≠ 0 → 1 ≤ n := Nat.one_le_iff_ne_zero.2
  dsimp only [settleImage]
  refine ⟨by omega, by omega, by omega, clampNat_eq_self soak.1 soak.2, by omega, clampNat_eq_self (pos wtr.1) wtr.2,
    fun c => ?_, by omega, by omega, settledHoQl_eq_self hoQl.1 hoQl.2, clampNat_eq_self (pos sq.1) sq.2,
    clampNat_eq_self (pos slew.1) slew.2, by rw [breaks], by rw [breaks], upstream, fun c => ?_⟩
  · rw [tget_tab]; exact clampNat_eq_self (pos (ql c).1) (ql c).2
  · rw [tget_tab]; exact nominated c

/-- Settles O9: the ranges, the fields taken as they are, and the case of nothing replaced. -/
theorem settledImageIsInRange : Obligations.SettledImageIsInRange := fun i own =>
  ⟨settleImage_range i own,
    ⟨rfl, rfl, rfl, rfl, rfl, rfl, rfl, rfl, rfl, rfl, fun c => tget_tab _ c, rfl, rfl, rfl, rfl, rfl⟩,
    fun h => (unreplaced_of_imageReplaced h).settled⟩

end Sys2Proof.Machine
end

section
/-! SUPPORT. The capacities and ranges of `Bounded` over every step (O46): what each part of an event does to the bounded
registers, and the commands that move one of them. -/

namespace Sys2Proof.Machine

/-! ## The invariant and the relation that keeps it -/

/-- The bounds of every queue, counter and range, with no frame in hand in CONFIG-HALT. -/
def InBounds (s : State) : Prop := Bounded s ∧ HaltQuiet s

/-- No bounded register of `t` is fuller than in `s`, but for the log, which an event may fill up to its capacity. The
default proofs are those of a `t` that leaves the register as it is. -/
structure NoFuller (s t : State) : Prop where
  log : s.alm.log.length ≤ 32 → t.alm.log.length ≤ 32 := by exact id
  capture : t.cap.queue.length ≤ s.cap.queue.length := by exact le_rfl
  responses : t.line.responses.length ≤ s.line.responses.length := by exact le_rfl
  collisions : t.line.collisions ≤ s.line.collisions := by exact le_rfl
  history : t.freq.history.length ≤ s.freq.history.length := by exact le_rfl
  k : t.freq.k.natAbs ≤ s.freq.k.natAbs := by exact le_rfl
  errors : ∀ r, (t.recv r).errors ≤ (s.recv r).errors := by exact fun _ => le_rfl
  repeats : ∀ r, (t.decv r).repeats ≤ (s.decv r).repeats := by exact fun _ => le_rfl
  absence : ∀ r, (t.decv r).absence ≤ (s.decv r).absence := by exact fun _ => le_rfl
  quiet : HaltQuiet s → HaltQuiet t := by exact fun h => h

theorem NoFuller.refl (s : State) : NoFuller s s := {}

theorem NoFuller.trans {s t u : State} (h : NoFuller s t) (g : NoFuller t u) : NoFuller s u where
  log := g.log ∘ h.log
  capture := g.capture.trans h.capture
  responses := g.responses.trans h.responses
  collisions := g.collisions.trans h.collisions
  history := g.history.trans h.history
  k := g.k.trans h.k
  errors r := (g.errors r).trans (h.errors r)
  repeats r := (g.repeats r).trans (h.repeats r)
  absence r := (g.absence r).trans (h.absence r)
  quiet := g.quiet ∘ h.quiet

theorem NoFuller.inBounds {s t : State} (n : NoFuller s t) (h : InBounds s) : InBounds t := by
  obtain ⟨b, q⟩ := h
  refine ⟨?_, n.quiet q⟩
  exact
    { log := n.log b.log
      capture := n.capture.trans b.capture
      responses := n.responses.trans b.responses
      collisions := n.collisions.trans b.collisions
      history := n.history.trans b.history
      k := by have hk := b.k; have hn := n.k; omega
      errors := fun r => (n.errors r).trans (b.errors r)
      repeats := fun r => (n.repeats r).trans (b.repeats r)
      absence := fun r => (n.absence r).trans (b.absence r) }

theorem foldl_noFuller {α : Type} (f : State → α → State) (hf : ∀ s x, NoFuller s (f s x)) (l : List α) (s : State) :
    NoFuller s (l.foldl f s) := by
  induction l generalizing s with
  | nil => exact .refl s
  | cons x xs ih => exact (hf s x).trans (ih (f s x))

/-- What stays within the frame of an event fills no bounded register, if the log keeps its capacity. -/
theorem EventFrame.noFuller {s t : State} (f : EventFrame s t)
    (log : s.alm.log.length ≤ 32 → t.alm.log.length ≤ 32) : NoFuller s t where
  log := log
  capture := by rw [f.cap]
  responses := (congrArg (fun l : BayLine => l.responses.length) f.line).le
  collisions := (congrArg (fun l : BayLine => l.collisions) f.line).le
  history := by rw [f.history]
  k := by rw [f.k]
  errors r := by simp [State.recv, f.scan]
  repeats r := by simp [State.decv, f.dec]
  absence r := by simp [State.decv, f.dec]
  quiet hq ht := by
    have hs : s.phase = .halt := by
      rcases f.phase with h | ⟨-, h⟩
      · exact h ▸ ht
      · rw [h] at ht; cases ht
    have hi := f.inHand
    rw [hq hs] at hi
    simpa using hi

/-! ## The end of an event -/

theorem foldl_alm {α : Type} (f : State → α → State) (hf : ∀ s x, (f s x).alm = s.alm) (l : List α) (s : State) :
    (l.foldl f s).alm = s.alm := by
  induction l generalizing s with
  | nil => rfl
  | cons x xs ih => exact (ih (f s x)).trans (hf s x)

@[simp] theorem hitCand_alm (s : State) (c : Cand) : (hitCand s c).alm = s.alm := by unfold hitCand; split <;> rfl

@[simp] theorem refHit_alm (s : State) (p : Port) : (refHit s p).alm = s.alm := by
  unfold refHit
  refine foldl_alm _ (fun s i => ?_) _ s
  split
  · exact hitCand_alm s _
  · rfl

@[simp] theorem takePosition_alm (s : State) (p : Port) : (takePosition s p).alm = s.alm := by
  unfold takePosition; split
  · rw [refHit_alm, updRec_alm]
  · rfl

@[simp] theorem readbackCheck_alm (s : State) : (readbackCheck s).alm = s.alm := by
  unfold readbackCheck; split
  · have kept := foldl_alm takePosition takePosition_alm (idx 16) s
    unfold beginListen
    generalize (idx 16).foldl takePosition s = t at kept ⊢
    exact kept
  · rfl

/-- What is handed on leaves the Alarm Unit for last (R165). -/
@[simp] theorem handOn_alm (s : State) : (handOn s).alm = s.alm := by simp [handOn]

theorem handOn_noFuller (s : State) : NoFuller s (handOn s) := (handOn_frame s).noFuller (by simp)

/-- Records that find the log full are dropped (R175). -/
theorem Alarm.settle_log_le (s : State) (old : Vector Point 158) (h : s.alm.log.length ≤ 32) :
    (Alarm.settle s old).log.length ≤ 32 := by
  simp only [Alarm.settle, List.length_append, List.length_take, logCapacity]
  omega

theorem conclude_log_le (s0 s : State) (h : s.alm.log.length ≤ 32) : (conclude s0 s).alm.log.length ≤ 32 := by
  rw [conclude_alm]
  have hs : (handOn s).alm.log.length ≤ 32 := by simpa using h
  split
  · exact Alarm.settle_log_le _ _ hs
  · exact hs

theorem conclude_noFuller (s0 s : State) : NoFuller s (conclude s0 s) :=
  (conclude_frame s0 s).noFuller (conclude_log_le s0 s)

/-- An event whose own effect keeps the bounds keeps them to its end. -/
theorem conclude_inBounds (s0 : State) {s : State} (h : InBounds s) : InBounds (conclude s0 s) :=
  (conclude_noFuller s0 s).inBounds h

/-! ## The shared operations -/

theorem requestTrigger_noFuller (s : State) : NoFuller s (requestTrigger s) :=
  (requestTrigger_frame s).noFuller (by simp)

theorem triggerIf_noFuller (b : Bool) (s : State) : NoFuller s (triggerIf b s) :=
  (triggerIf_frame b s).noFuller (by simp)

theorem protectionPart_noFuller (s t : State) : NoFuller s (protectionPart s t) :=
  (protectionPart_frame s t).noFuller id

theorem actuationPart_noFuller (s t : State) : NoFuller s (actuationPart s t) := (protectionPart_noFuller s t).trans {}

theorem endStep_noFuller (s : State) (r : ExResult) : NoFuller s (endStep s r) :=
  NoFuller.trans {} (triggerIf_noFuller _ _)

theorem stepReplaced_noFuller (s : State) : NoFuller s (stepReplaced s) := by
  unfold stepReplaced; split
  · exact endStep_noFuller s _
  · exact .refl s

theorem putEntry_noFuller (s : State) (p : Port) (e : Option Entry) : NoFuller s (putEntry s p e) := by
  unfold putEntry; split <;> exact {}

theorem restartRetry_noFuller (s : State) (p : Port) : NoFuller s (restartRetry s p) := {}

theorem ask_noFuller (s : State) (p : Port) (c : Cmd) (m : Maker) (b : Bool) : NoFuller s (ask s p c m b) := by
  unfold ask
  split
  · exact putEntry_noFuller s p _
  · rename_i old _
    have retried : ∀ (x : Prop) [Decidable x] (t : State), NoFuller t (if x then restartRetry t p else t) := by
      intro x _ t; split
      · exact restartRetry_noFuller t p
      · exact .refl t
    have placed := (putEntry_noFuller s p (some ⟨c, m, old.overBridge⟩)).trans
      (retried (old.isDriverUnbridge && decide (m ≠ .driver)) _)
    dsimp only
    split
    · exact placed.trans (stepReplaced_noFuller _)
    · exact placed

theorem setTiming_noFuller (s : State) (st : TimingState) : NoFuller s (setTiming s st) :=
  NoFuller.trans {} (triggerIf_noFuller _ _)

theorem enterHoldover_noFuller (s : State) : NoFuller s (enterHoldover s) := by
  unfold enterHoldover; split
  · exact NoFuller.trans {} (setTiming_noFuller _ _)
  · exact setTiming_noFuller _ _

theorem reselect_noFuller (s : State) : NoFuller s (reselect s) := by
  unfold reselect
  split
  · exact .refl s
  · dsimp only
    split
    · exact NoFuller.trans {} (setTiming_noFuller _ _)
    · split
      · exact NoFuller.trans {} (enterHoldover_noFuller _)
      · exact {}

theorem refresh_noFuller (s : State) (n : Station) : NoFuller s (refresh s n) :=
  NoFuller.trans {} (triggerIf_noFuller _ _)

theorem unheardEval_noFuller (s : State) : NoFuller s (unheardEval s) := by unfold unheardEval; split <;> exact {}

theorem unheardEnd_noFuller (s : State) (a : Announce) : NoFuller s (unheardEnd s a) := by
  unfold unheardEnd; split
  · exact NoFuller.trans {} (requestTrigger_noFuller _)
  · exact .refl s

theorem takeAnnounce_noFuller (s : State) (n : Station) (a : Announce) : NoFuller s (takeAnnounce s n a) :=
  (refresh_noFuller s n).trans
    ((NoFuller.trans {} (unheardEnd_noFuller _ a)).trans (unheardEval_noFuller _))

/-! ## Receivers and the Decoder -/

theorem RecvScan.hold_errors_le (r : RecvScan) (x : Option Sample) : (r.hold x).errors ≤ 255 := by
  cases x with
  | none => exact Nat.min_le_left _ _
  | some x => exact Nat.zero_le _

theorem scanSlot_inBounds {s : State} (h : InBounds s) : InBounds { s with scan := s.scanSlot } := by
  obtain ⟨b, q⟩ := h
  refine ⟨{ b with errors := fun r => ?_ }, q⟩
  have hr := RecvScan.hold_errors_le (s.recv s.scan.next) s.scan.kept
  have hb := b.errors r
  simp only [State.recv, State.scanSlot, tget_tset] at hr hb ⊢
  split
  · split <;> exact hr
  · exact hb

theorem RecvDec.take_le (d : RecvDec) (x : Option Identity) :
    (d.take x).repeats ≤ 8 ∧ (d.take x).absence ≤ 100 := by
  cases x with
  | none => exact ⟨Nat.zero_le _, Nat.min_le_left _ _⟩
  | some i =>
    refine ⟨?_, Nat.zero_le _⟩
    simp only [RecvDec.take]
    split <;> omega

/-- Auto-learn changes the expectation alone (R22). -/
theorem RecvDec.autoLearn_eq (d : RecvDec) (g : Config) (r : Recv) :
    d.autoLearn g r = { d with expect := (d.autoLearn g r).expect } := by
  unfold RecvDec.autoLearn
  split
  · split <;> rfl
  · rfl

theorem Capture.append_length_le (c : Capture) (r : CaptureRec) (h : c.queue.length ≤ 4) :
    (c.append r).queue.length ≤ 4 := by
  unfold Capture.append
  split
  · simpa using (by assumption : c.queue.length < 4)
  · exact h

theorem decodeSlot_inBounds {s : State} (r : Recv) (x : Sample) (h : InBounds s) : InBounds (decodeSlot s r x) := by
  obtain ⟨b, q⟩ := h
  obtain ⟨hr, ha⟩ := RecvDec.take_le (s.decv r) (tracerIdentity x)
  have written : ∀ d : RecvDec, d.repeats ≤ 8 ∧ d.absence ≤ 100 →
      InBounds { s with dec := { s.dec with recvs := tset s.dec.recvs r d } } := by
    intro d hd
    refine ⟨{ b with repeats := fun z => ?_, absence := fun z => ?_ }, q⟩
    · have hz := b.repeats z
      simp only [State.decv, tget_tset] at hz ⊢
      split
      · exact hd.1
      · exact hz
    · have hz := b.absence z
      simp only [State.decv, tget_tset] at hz ⊢
      split
      · exact hd.2
      · exact hz
  unfold decodeSlot
  dsimp only
  split
  · exact written _ ⟨hr, ha⟩
  · have hd := written (((s.decv r).take (tracerIdentity x)).autoLearn s.config r)
      (by rw [RecvDec.autoLearn_eq]; exact ⟨hr, ha⟩)
    exact ⟨{ hd.1 with capture := Capture.append_length_le _ _ b.capture }, q⟩

/-! ## Correction events -/

theorem clampInt_bounds (n : Nat) (x : Int) : -n ≤ clampInt n x ∧ clampInt n x ≤ n := by
  unfold clampInt
  split
  · omega
  · split <;> omega

theorem feed_length_le (l : List Int) (k : Int) (h : l.length ≤ 16) : (feed l k).length ≤ 16 := by
  unfold feed
  split <;> simp <;> omega

/-- K is clamped (R154) and the history a ring of sixteen (R156). -/
theorem correct_inBounds {s : State} (hit : Bool) (h : InBounds s) : InBounds (correct s hit) := by
  obtain ⟨b, q⟩ := h
  unfold correct
  dsimp only
  generalize lockTest _ _ _ = test
  refine (setTiming_noFuller _ _).inBounds ⟨{ b with k := clampInt_bounds 32767 _, history := ?_ }, q⟩
  dsimp only
  split
  · exact feed_length_le _ _ b.history
  · exact b.history

theorem completeGate_inBounds {s : State} (c : Cand) (count : Nat) (h : InBounds s) :
    InBounds (completeGate s c count) := by
  have judged : ∀ r, InBounds (reselect (s.setCand c r)) := fun r =>
    (NoFuller.trans {} (reselect_noFuller (s.setCand c r))).inBounds h
  unfold completeGate
  dsimp only
  split
  · exact correct_inBounds _ (judged _)
  · exact judged _

/-! ## Starts -/

theorem beginStart_inBounds {s : State} (straps : BitVec 5) (b : Bounded s) (hand : s.line.inHand = none) :
    InBounds (beginStart s straps) := by
  set s1 : State := { s with
    straps := straps
    phase := if straps.toNat < 30 then .loading false else .halt
    loadTimer := if straps.toNat < 30 then some 10 else none }
  have h1 : InBounds s1 := ⟨{ b with }, fun _ => hand⟩
  exact NoFuller.inBounds (s := s1) {} h1

theorem reset_bounded : Bounded State.reset where
  log := by decide
  capture := by decide
  responses := by decide
  collisions := by decide
  history := by decide
  k := by decide
  errors r := by simp [State.recv, State.reset, Scanner.reset, RecvScan.reset]
  repeats r := by simp [State.decv, State.reset, Decoder.reset, RecvDec.reset]
  absence r := by simp [State.decv, State.reset, Decoder.reset, RecvDec.reset]

theorem fullReset_inBounds (s : State) (straps : BitVec 5) : InBounds (fullReset s straps) :=
  beginStart_inBounds straps { reset_bounded with } rfl

/-- A restart keeps the log, the captures, K and the history, and clears every other bounded register (R206). -/
theorem restart_inBounds {s : State} (straps : BitVec 5) (h : InBounds s) : InBounds (restart s straps) := by
  obtain ⟨b, -⟩ := h
  refine beginStart_inBounds straps ?_ rfl
  exact
    { reset_bounded with
      log := b.log
      capture := b.capture
      history := b.history
      k := b.k
      repeats := fun r => by simp [State.decv, Decoder.restarted, RecvDec.reset]
      absence := fun r => by simp [State.decv, Decoder.restarted, RecvDec.reset] }

theorem beginWork_noFuller (s : State) (g : Config) (d : Bool) (temp : BitVec 9) : NoFuller s (beginWork s g d temp) := by
  unfold beginWork
  dsimp only
  refine NoFuller.trans ?_ (foldl_noFuller _ (fun u p => ?_) (idx 16) _)
  · exact { quiet := fun _ h => nomatch h }
  · split
    · exact ask_noFuller u p _ _ _
    · exact .refl u

theorem settle_inBounds {s : State} (i : RawImage) (d : Bool) (temp : BitVec 9) (h : InBounds s) :
    InBounds (settle s i d temp) :=
  conclude_inBounds s ((beginWork_noFuller s _ _ temp).inBounds h)

theorem readFailed_inBounds {s : State} (second : Bool) (temp : BitVec 9) (h : InBounds s) :
    InBounds (readFailed s second temp) := by
  unfold readFailed; split
  · exact settle_inBounds _ _ _ h
  · exact NoFuller.inBounds { quiet := fun _ h => nomatch h } h

theorem placeRecord_noFuller (s : State) (p : Port) : NoFuller s (placeRecord s p) := by
  unfold placeRecord
  dsimp only
  split <;> exact {}

/-! ## Requests -/

theorem lineQuiet_noFuller (s : State) : NoFuller s (lineQuiet s) := {}

/-- LRN changes the expectation of receivers alone (R26). -/
theorem learn_decv (s : State) (r z : Recv) :
    (learn s r).decv z = { s.decv z with expect := ((learn s r).decv z).expect } := by
  unfold learn
  split
  · simp only [State.decv, tget_tset]
    split
    · next h => subst h; rfl
    · rfl
  · rfl

theorem learn_noFuller (s : State) (r : Recv) : NoFuller s (learn s r) := by
  have rest : NoFuller s { learn s r with dec := s.dec } := by unfold learn; split <;> exact {}
  exact { rest with
    repeats := fun z => by rw [learn_decv]
    absence := fun z => by rw [learn_decv] }

theorem withAlm_noFuller (s : State) (a : Alarm) (log : s.alm.log.length ≤ 32 → a.log.length ≤ 32) :
    NoFuller s { s with alm := a } := { log := log }

theorem readLog_noFuller (s : State) (n : Nat) : NoFuller s (readLog s n) :=
  withAlm_noFuller s _ fun h => by simp only [List.length_drop]; omega

theorem readCapture_noFuller (s : State) : NoFuller s (readCapture s) := by
  unfold readCapture
  split
  · exact .refl s
  · next rest hq => exact { capture := by simp [hq] }

theorem clearLatches_noFuller (s : State) : NoFuller s (clearLatches s) := withAlm_noFuller s _ id

theorem acknowledge_noFuller (s : State) : NoFuller s (acknowledge s) := withAlm_noFuller s _ id

theorem lockCand_noFuller (s : State) (c : Cand) (on : Bool) : NoFuller s (lockCand s c on) := by
  unfold lockCand
  dsimp only
  split
  · split <;> exact {}
  · split <;> exact {}

theorem sweepStart_noFuller (s : State) (sp : Spare) (m : Mode) (n : Nat) (k : Bool) (f : Option Port) :
    NoFuller s (sweepStart s sp m n k f) := by
  unfold sweepStart
  dsimp only
  split
  · exact NoFuller.trans {} (protectionPart_noFuller _ _)
  · exact {}

theorem sweepStop_noFuller (s : State) : NoFuller s (sweepStop s) := by
  unfold sweepStop
  dsimp only
  split
  · exact {}
  · split
    · exact NoFuller.trans {} (protectionPart_noFuller _ _)
    · exact {}

/-- No request's effect fills a bounded register: only its response does. -/
theorem requestEffect_noFuller (s : State) (r : Request) : NoFuller s (requestEffect s r) := by
  cases r with
  | logr n => exact readLog_noFuller s n
  | capr => exact readCapture_noFuller s
  | lrn rc => exact learn_noFuller s rc
  | lrnAll => exact foldl_noFuller learn learn_noFuller (idx 20) s
  | clrl => exact clearLatches_noFuller s
  | aco => exact acknowledge_noFuller s
  | slk sp on => exact NoFuller.trans {} (triggerIf_noFuller _ _)
  | trefLockout c on => exact lockCand_noFuller s c on
  | swpStart sp m n k f => exact sweepStart_noFuller s sp m n k f
  | swpStep => exact protectionPart_noFuller s _
  | swpStop => exact sweepStop_noFuller s
  | stat | view | portPart | spar | timgStation | timgCand | mask | force | manual | lockout | clear
  | trefForce | trefClear | pairClear | rsta => exact {}

/-- A response joins a queue that has room (R48). -/
theorem respond_inBounds {s : State} (src : Station) (code : Byte) (r : Result) (data : List Byte) (h : InBounds s)
    (room : s.line.responses.length < 2) : InBounds (respond s src code r data) := by
  obtain ⟨b, q⟩ := h
  exact ⟨{ b with responses := by simpa [respond] using room }, q⟩

theorem respond_after_inBounds {s t : State} (src : Station) (code : Byte) (r : Result) (data : List Byte)
    (n : NoFuller s t) (h : InBounds s) (room : s.line.responses.length < 2) : InBounds (respond t src code r data) :=
  respond_inBounds src code r data (n.inBounds h) (n.responses.trans_lt room)

theorem takeForAll_inBounds (s0 : State) {s : State} (src : Station) (payload : List Byte) (h : InBounds s) :
    InBounds (takeForAll s0 s src payload) := by
  unfold takeForAll
  split
  · split
    · exact conclude_inBounds s0 ((acknowledge_noFuller s).inBounds h)
    · exact conclude_inBounds s0 ((clearLatches_noFuller s).inBounds h)
    · exact conclude_inBounds s0 h
  · exact conclude_inBounds s0 h

theorem takeValid_inBounds (s0 : State) {s : State} (src : Station) (code : Byte) (r : Request) (h : InBounds s)
    (room : s.line.responses.length < 2) : InBounds (takeValid s0 s src code r) := by
  unfold takeValid
  split
  · exact respond_after_inBounds _ _ _ _ (conclude_noFuller s0 s) h room
  · exact respond_after_inBounds _ _ _ _ ((requestEffect_noFuller s r).trans (conclude_noFuller s0 _)) h room

theorem takeRequest_inBounds (s0 : State) {s : State} (src : Station) (all : Bool) (payload : List Byte)
    (h : InBounds s) : InBounds (takeRequest s0 s src all payload) := by
  have answered : ∀ code r data, s.line.responses.length < 2 → InBounds (respond (conclude s0 s) src code r data) :=
    fun code r data room => respond_after_inBounds src code r data (conclude_noFuller s0 s) h room
  unfold takeRequest
  dsimp only
  split
  · exact conclude_inBounds s0 h
  split
  · exact takeForAll_inBounds s0 src payload h
  split
  · exact conclude_inBounds s0 h
  next full =>
  have room : s.line.responses.length < 2 := by omega
  split
  · exact answered _ _ _ room
  split
  · exact answered _ _ _ room
  split
  · exact answered _ _ _ room
  · exact takeValid_inBounds s0 src _ _ h room

theorem handRequest_inBounds (s0 : State) {s : State} (src : Station) (tgt : BitVec 6) (payload : List Byte)
    (h : InBounds s) : InBounds (handRequest s0 s src tgt payload) := by
  have heard := (refresh_noFuller s src).inBounds h
  have handed := (handOn_noFuller _).inBounds heard
  unfold handRequest
  dsimp only
  split
  · exact takeRequest_inBounds s0 src true payload handed
  split
  · exact takeRequest_inBounds s0 src false payload handed
  · exact conclude_inBounds s0 heard

theorem requestArrives_inBounds {s : State} (src : Station) (tgt : BitVec 6) (payload : List Byte) (h : InBounds s) :
    InBounds (requestArrives s src tgt payload) := by
  have idle := (lineQuiet_noFuller s).inBounds h
  unfold requestArrives
  split
  · exact handRequest_inBounds s src tgt payload idle
  · exact idle

/-- The row of a request is the arrival of its frame (log 17). -/
theorem exec_of_requestOf {i : Instr} {src : Station} {tgt : BitVec 6} {payload : List Byte} (s : State)
    (h : requestOf i = some (src, tgt, payload)) : exec i s = .next (requestArrives s src tgt payload) := by
  cases i <;> cases h <;> rfl

/-! ## The bay line -/

theorem handFrame_inBounds (s0 : State) {s : State} (f : Frame) (h : InBounds s) : InBounds (handFrame s0 s f) := by
  unfold handFrame
  dsimp only
  split
  · split
    · exact conclude_inBounds s0 ((takeAnnounce_noFuller s _ _).inBounds h)
    · exact h
  split
  · exact handRequest_inBounds s0 _ _ _ h
  · exact conclude_inBounds s0 ((refresh_noFuller s _).inBounds h)

/-- A settled station is not in CONFIG-HALT. -/
theorem settled_ne_halt {s : State} (h : s.settled = true) : s.phase ≠ .halt := by
  intro hp; simp [State.settled, hp] at h

theorem startAttempt_noFuller {s : State} (c : FrameClass) (f : Frame) (hs : s.settled = true) :
    NoFuller s (startAttempt s c f) where
  collisions := by simp only [startAttempt]; split <;> omega
  quiet _ hp := absurd hp (settled_ne_halt hs)

theorem leaveHand_noFuller (s : State) (c : FrameClass) : NoFuller s { s with line := leaveHand s.line c } := by
  cases c with
  | triggered => exact { collisions := Nat.zero_le _, quiet := fun _ _ => rfl }
  | routine => exact { collisions := Nat.zero_le _, quiet := fun _ _ => rfl }
  | response =>
    exact { responses := by simp [leaveHand], collisions := Nat.zero_le _, quiet := fun _ _ => rfl }

theorem dropFrame_inBounds {s : State} (c : FrameClass) (h : InBounds s) : InBounds (dropFrame s c) :=
  conclude_inBounds s (((leaveHand_noFuller s c).trans {}).inBounds h)

/-! ## Every command -/

/-- Every next state of an outcome is of a kind. -/
def EveryNext (P : State → Prop) (o : Host.Outcome State Fault Refusal) : Prop := ∀ t, o = .next t → P t

@[simp] theorem everyNext_next (P : State → Prop) (t : State) : EveryNext P (.next t) ↔ P t :=
  ⟨fun h => h t rfl, fun h u e => by cases e; exact h⟩

/-- An event under a condition, which otherwise changes nothing. -/
theorem everyNext_ite {P : State → Prop} {c : Prop} [Decidable c] {s t : State} (ht : P t) (hs : P s) :
    EveryNext P (if c then .next t else .next s) := by
  split <;> rwa [everyNext_next]

theorem execConfigReadEnd_inBounds {s : State} (r : ConfigRead) (temp : BitVec 9) (h : InBounds s) :
    EveryNext InBounds (execConfigReadEnd r temp s) := by
  unfold execConfigReadEnd
  split
  · split
    · exact everyNext_ite (settle_inBounds _ _ _ h) (readFailed_inBounds _ _ h)
    · simpa using readFailed_inBounds _ _ h
  all_goals simpa using h

theorem execConfigReadTimeout_inBounds {s : State} (temp : BitVec 9) (h : InBounds s) :
    EveryNext InBounds (execConfigReadTimeout temp s) := by
  unfold execConfigReadTimeout
  split
  · exact everyNext_ite (readFailed_inBounds _ _ h) h
  all_goals simpa using h

theorem execSlotCompletion_inBounds {s : State} (h : InBounds s) : EveryNext InBounds (execSlotCompletion s) :=
  everyNext_ite (conclude_inBounds s (decodeSlot_inBounds _ _ (scanSlot_inBounds h))) h

theorem execFrameArrival_inBounds {s : State} (bits : List Bool) (h : InBounds s) :
    EveryNext InBounds (execFrameArrival bits s) := by
  have idle := (lineQuiet_noFuller s).inBounds h
  unfold execFrameArrival
  split
  · split
    · exact everyNext_ite (handFrame_inBounds s _ idle) idle
    · simpa using idle
  · simpa using idle

theorem execAttemptStart_inBounds {s : State} (elapsed : Nat) (h : InBounds s) :
    EveryNext InBounds (execAttemptStart elapsed s) := by
  unfold execAttemptStart
  split
  · simpa using h
  · split
    · next hc =>
      have hs : s.settled = true := by simp only [Bool.and_eq_true] at hc; exact hc.1.1.1
      split
      · simpa using (startAttempt_noFuller _ _ hs).inBounds h
      · simpa using h
    · simpa using h

theorem execFrameSent_inBounds {s : State} (straps : BitVec 5) (h : InBounds s) :
    EveryNext InBounds (execFrameSent straps s) := by
  unfold execFrameSent
  split
  · next x _ =>
    have sent := (leaveHand_noFuller s x.cls).inBounds h
    split
    · exact everyNext_ite (restart_inBounds straps sent) sent
    · simpa using h
  · simpa using h

/-- The collision count stays below 8: the eighth collision drops the frame (R43). -/
theorem execCollision_inBounds {s : State} (straps : BitVec 5) (h : InBounds s) :
    EveryNext InBounds (execCollision straps s) := by
  unfold execCollision
  split
  · next x _ =>
    have dropped := dropFrame_inBounds x.cls h
    split
    · split
      · next room =>
        obtain ⟨b, q⟩ := h
        rw [everyNext_next]
        exact ⟨{ b with collisions := Nat.le_of_lt_succ room }, q⟩
      · exact everyNext_ite (restart_inBounds straps dropped) dropped
    · simpa using h
  · simpa using h

theorem execClaimWindowExpiry_inBounds {s : State} (w : WindowOwner) (h : InBounds s) :
    EveryNext InBounds (execClaimWindowExpiry w s) := by
  have settles : ∀ t, InBounds (conclude s (protectionPart s t)) := fun t =>
    conclude_inBounds s ((protectionPart_noFuller s t).inBounds h)
  unfold execClaimWindowExpiry
  split
  · exact everyNext_ite (settles _) h
  · split
    · exact everyNext_ite (settles _) h
    · simpa using h

theorem execDriverAnswer_inBounds {s : State} (a : DriverAnswer) (h : InBounds s) :
    EveryNext InBounds (execDriverAnswer a s) := by
  unfold execDriverAnswer
  split
  · exact everyNext_ite (conclude_inBounds s ((actuationPart_noFuller s _).inBounds h)) h
  · simpa using h

theorem execAllowanceExpiry_inBounds {s : State} (h : InBounds s) : EveryNext InBounds (execAllowanceExpiry s) := by
  unfold execAllowanceExpiry
  split
  · exact everyNext_ite (conclude_inBounds s ((actuationPart_noFuller s _).inBounds h)) h
  · simpa using h

theorem execRetryTimerExpiry_inBounds {s : State} (p : Port) (h : InBounds s) :
    EveryNext InBounds (execRetryTimerExpiry p s) := by
  unfold execRetryTimerExpiry
  split
  · split
    · exact everyNext_ite (conclude_inBounds s ((restartRetry_noFuller s p).inBounds h))
        (conclude_inBounds s ((protectionPart_noFuller s _).inBounds h))
    · simpa using h
  · simpa using h

theorem execStepTimerExpiry_inBounds {s : State} (h : InBounds s) : EveryNext InBounds (execStepTimerExpiry s) := by
  unfold execStepTimerExpiry
  dsimp only
  split
  · exact everyNext_ite (conclude_inBounds s ((NoFuller.trans {} (protectionPart_noFuller _ _)).inBounds h))
      (NoFuller.inBounds {} h)
  · simpa using h

theorem edgeBack_noFuller (s : State) (c : Cand) : NoFuller s (edgeBack s c) := by
  unfold edgeBack
  dsimp only
  split <;> exact {}

theorem execSecondsTick_inBounds {s : State} (temp : BitVec 9) (h : InBounds s) :
    EveryNext InBounds (execSecondsTick temp s) := by
  have ticked : InBounds (tickSeconds s temp) := NoFuller.inBounds {} h
  unfold execSecondsTick
  dsimp only
  split
  · exact everyNext_ite (conclude_inBounds s (correct_inBounds false ticked)) (conclude_inBounds s ticked)
  · rw [everyNext_next]; exact NoFuller.inBounds {} h

theorem execListenEnd_inBounds {s : State} (h : InBounds s) : EveryNext InBounds (execListenEnd s) := by
  have runs : NoFuller s { s with phase := .running, listenTimer := none } := { quiet := fun _ h => nomatch h }
  unfold execListenEnd
  split
  · refine everyNext_ite (conclude_inBounds s (NoFuller.inBounds ?_ h)) h
    refine NoFuller.trans ?_ ((unheardEval_noFuller _).trans (requestTrigger_noFuller _))
    exact runs.trans (foldl_noFuller placeRecord placeRecord_noFuller (idx 16) _)
  all_goals simpa using h

/-- Every command keeps the bounds: an event ends by `conclude_inBounds`, and its own effect is one of the above. -/
theorem exec_inBounds (i : Instr) {s : State} (h : InBounds s) : EveryNext InBounds (exec i s) := by
  have event : ∀ {c : Prop} [Decidable c] {u : State}, NoFuller s u →
      EveryNext InBounds (if c then .next (conclude s u) else .next s) :=
    fun n => everyNext_ite (conclude_inBounds s (n.inBounds h)) h
  have plain : ∀ {c : Prop} [Decidable c] {u : State}, NoFuller s u →
      EveryNext InBounds (if c then .next u else .next s) :=
    fun n => everyNext_ite (n.inBounds h) h
  cases hr : requestOf i with
  | some r =>
    obtain ⟨src, tgt, payload⟩ := r
    rw [exec_of_requestOf s hr, everyNext_next]
    exact requestArrives_inBounds src tgt payload h
  | none =>
    cases i with
    | fullReset straps => exact (everyNext_next _ _).2 (fullReset_inBounds s straps)
    | configReadEnd r temp => exact execConfigReadEnd_inBounds r temp h
    | configReadTimeout temp => exact execConfigReadTimeout_inBounds temp h
    | slotCompletion => exact execSlotCompletion_inBounds h
    | sampleAnswer a => exact plain {}
    | lineActivity => exact (everyNext_next _ _).2 (NoFuller.inBounds {} h)
    | lineIdle => exact (everyNext_next _ _).2 ((lineQuiet_noFuller s).inBounds h)
    | frameArrival bits => exact execFrameArrival_inBounds bits h
    | attemptStart elapsed => exact execAttemptStart_inBounds elapsed h
    | collision straps => exact execCollision_inBounds straps h
    | frameSent straps => exact execFrameSent_inBounds straps h
    | spacingTimerExpiry => exact plain {}
    | routineTimerExpiry => exact plain {}
    | linefaultTimerExpiry => exact event {}
    | peerExpiry n => exact event (NoFuller.trans {} (unheardEval_noFuller _))
    | quarantineEnd n => exact event {}
    | silenceTimerExpiry => exact event (NoFuller.trans {} (requestTrigger_noFuller _))
    | unheardTimerExpiry => exact event (NoFuller.trans {} (requestTrigger_noFuller _))
    | holdoffExpiry p => exact event {}
    | claimWindowExpiry w => exact execClaimWindowExpiry_inBounds w h
    | wtrExpiry p => exact event (protectionPart_noFuller s _)
    | driverAnswer a => exact execDriverAnswer_inBounds a h
    | allowanceExpiry => exact execAllowanceExpiry_inBounds h
    | recoveryTimerExpiry p sp => exact event {}
    | retryTimerExpiry p => exact execRetryTimerExpiry_inBounds p h
    | stepTimerExpiry => exact execStepTimerExpiry_inBounds h
    | edgeLoss c => exact event {}
    | edgeReturn c => exact event (edgeBack_noFuller s c)
    | gateCompletion c count => exact everyNext_ite (conclude_inBounds s (completeGate_inBounds c count h)) h
    | gateOverrun c => exact event {}
    | secondsTick temp => exact execSecondsTick_inBounds temp h
    | holdoverLimitExpiry => exact event {}
    | listenEnd => exact execListenEnd_inBounds h
    | gateStart c => exact plain {}
    | _ => cases hr

/-- The passing of 10 ms moves timers and ages alone. -/
theorem tick_noFuller (s : State) : NoFuller s (tick s) := {}

theorem step_inBounds {s : State} (h : InBounds s) : EveryNext InBounds (step s) := by
  unfold step
  split
  · next i rest _ =>
    have unqueued : InBounds { s with pending := rest } := NoFuller.inBounds {} h
    exact exec_inBounds i unqueued
  · simpa using (tick_noFuller s).inBounds h

/-- Settles O46: the bounds are an invariant of every command and of the passing of time. -/
theorem capacitiesAndRangesHold : Obligations.CapacitiesAndRangesHold := by
  intro s t hb hq ht
  exact step_inBounds ⟨hb, hq⟩ t ht

end Sys2Proof.Machine
end

section
/-! SUPPORT. A slot and its sample (O11): the answer kept, the receiver and its countdown after a completion, and the
Decoder's receiver after the sample taken. -/

namespace Sys2Proof.Machine

/-! ## The answer kept (R2) -/

theorem execSampleAnswer_keeps {s : State} {a : SampleAnswer} (hs : s.settled = true) (empty : s.scan.kept = none)
    (good : a.checksumOk = true) (mine : a.recv.toNat = s.scan.next.val) :
    execSampleAnswer a s = .next { s with scan := { s.scan with kept := some a.sample } } :=
  if_pos (by simp [hs, empty, good, mine])

theorem execSampleAnswer_discards {s : State} {a : SampleAnswer}
    (h : s.scan.kept ≠ none ∨ a.checksumOk = false ∨ a.recv.toNat ≠ s.scan.next.val) :
    execSampleAnswer a s = .next s :=
  if_neg (by
    simp only [Bool.and_eq_true, Option.isNone_iff_eq_none, decide_eq_true_eq]
    rintro ⟨⟨⟨-, empty⟩, good⟩, mine⟩
    rcases h with h | h | h
    · exact h empty
    · rw [good] at h; cases h
    · exact h mine)

/-! ## The receiver of the slot (R3, R5, R12) -/

theorem RecvScan.hold_last (r : RecvScan) (x : Option Sample) : (r.hold x).last = x.getD r.last := by cases x <;> rfl

theorem RecvScan.hold_errors (r : RecvScan) (x : Option Sample) :
    (r.hold x).errors = if x.isSome then 0 else min 255 (r.errors + 1) := by
  cases x <;> rfl

/-- The conditions are not judged when a sample is held: a masked sample leaves them so (R12). -/
theorem RecvScan.hold_conditions (r : RecvScan) (x : Option Sample) :
    (r.hold x).los = r.los ∧ (r.hold x).low = r.low ∧ (r.hold x).deg = r.deg := by
  cases x <;> exact ⟨rfl, rfl, rfl⟩

theorem spareOf_eq_some {r : Recv} {sp : Spare} (h : spareOf r = some sp) : r.val = 16 + sp.val := by
  unfold spareOf at h
  split at h
  · cases h; dsimp only; omega
  · cases h

theorem spareOf_injective {q r : Recv} {sp : Spare} (hq : spareOf q = some sp) (hr : spareOf r = some sp) : q = r :=
  Fin.ext ((spareOf_eq_some hq).trans (spareOf_eq_some hr).symm)

section Slot

variable {s t : State} (slot : t.scan = s.scanSlot)
include slot

theorem recv_after_slot : t.recv s.scan.next =
    let x := (s.recv s.scan.next).hold s.scan.kept
    if 0 < s.maskLeft s.scan.next then x else x.count s.config x.last := by
  simp only [State.recv, slot, State.scanSlot, tget_tset_same]

theorem recv_after_masked_slot (masked : 0 < s.maskLeft s.scan.next) :
    t.recv s.scan.next = (s.recv s.scan.next).hold s.scan.kept :=
  (recv_after_slot slot).trans (if_pos masked)

theorem recv_after_unmasked_slot (unmasked : s.maskLeft s.scan.next = 0) : t.recv s.scan.next =
    ((s.recv s.scan.next).hold s.scan.kept).count s.config (s.scan.kept.getD (s.recv s.scan.next).last) := by
  rw [← RecvScan.hold_last]
  exact (recv_after_slot slot).trans (if_neg (by omega))

/-- A counted sample and a masked one replace the last sample and the error count alike. -/
theorem held_after_slot : (t.recv s.scan.next).last = ((s.recv s.scan.next).hold s.scan.kept).last ∧
    (t.recv s.scan.next).errors = ((s.recv s.scan.next).hold s.scan.kept).errors := by
  rw [recv_after_slot slot]
  dsimp only
  split <;> exact ⟨rfl, rfl⟩

theorem recv_after_slot_ne {q : Recv} (h : q ≠ s.scan.next) : t.recv q = s.recv q := by
  simp only [State.recv, slot, State.scanSlot, tget_tset_ne _ h.symm]

theorem maskLeft_after_slot : t.maskLeft s.scan.next = s.maskLeft s.scan.next - 1 := by
  simp only [State.maskLeft, slot, State.scanSlot, masksAfter]
  cases spareOf s.scan.next with
  | none => rfl
  | some sp => exact tget_tset_same _ _ _

theorem maskLeft_after_slot_ne {q : Recv} (h : q ≠ s.scan.next) : t.maskLeft q = s.maskLeft q := by
  simp only [State.maskLeft, slot, State.scanSlot, masksAfter]
  cases hq : spareOf q with
  | none => rfl
  | some sp =>
    cases hr : spareOf s.scan.next with
    | none => rfl
    | some sr =>
      have other : sr ≠ sp := fun e => h (spareOf_injective hq (e ▸ hr))
      exact tget_tset_ne _ other _

end Slot

/-! ## The Decoder's receiver of the slot (R19–R22) -/

theorem tracerIdentity_of_valid {x : Sample} (tracer : x.tracer = true) (check : x.word.check.toNat =
      (x.word.site.toNat + 7 * x.word.station.toNat + 13 * x.word.port.toNat) % 64) :
    tracerIdentity x = some ⟨x.word.site, x.word.station, x.word.port⟩ :=
  if_pos (by simpa [TracerWord.valid, tracer] using check)

theorem tracerIdentity_of_not_valid {x : Sample} (h : ¬(x.tracer = true ∧ x.word.check.toNat =
      (x.word.site.toNat + 7 * x.word.station.toNat + 13 * x.word.port.toNat) % 64)) :
    tracerIdentity x = none :=
  if_neg (by simpa [TracerWord.valid] using h)

/-- A receiver of the Decoder after a slot's sample: auto-learn acts at a change of the decoded identity alone (R22). -/
def RecvDec.afterSlot (d : RecvDec) (g : Config) (r : Recv) (x : Sample) : RecvDec :=
  if (d.take (tracerIdentity x)).ident = d.ident then d.take (tracerIdentity x)
  else (d.take (tracerIdentity x)).autoLearn g r

theorem decodeSlot_dec (s : State) (r : Recv) (x : Sample) : (decodeSlot s r x).dec =
    { s.dec with recvs := tset s.dec.recvs r ((s.decv r).afterSlot s.config r x) } := by
  unfold decodeSlot RecvDec.afterSlot
  dsimp only
  split <;> rfl

/-- The decoding of a sample touches the Decoder and the Change Capture Queue alone. -/
theorem decodeSlot_eq (s : State) (r : Recv) (x : Sample) :
    decodeSlot s r x = { s with dec := (decodeSlot s r x).dec, cap := (decodeSlot s r x).cap } := by
  unfold decodeSlot
  dsimp only
  split <;> rfl

theorem RecvDec.take_expect (d : RecvDec) (x : Option Identity) : (d.take x).expect = d.expect := by cases x <;> rfl

/-- Auto-learn changes the expectation alone, so the sample gives every other field (R20, R21). -/
theorem RecvDec.afterSlot_eq (d : RecvDec) (g : Config) (r : Recv) (x : Sample) :
    d.afterSlot g r x = { d.take (tracerIdentity x) with expect := (d.afterSlot g r x).expect } := by
  unfold RecvDec.afterSlot
  split
  · rfl
  · rw [RecvDec.autoLearn_eq]

theorem RecvDec.afterSlot_ident (d : RecvDec) (g : Config) (r : Recv) (x : Sample) :
    (d.afterSlot g r x).ident = (d.take (tracerIdentity x)).ident := by rw [RecvDec.afterSlot_eq]

/-- The port field of a learned identity suits the receiver (R22). -/
def learnFits (r : Recv) (j : Identity) : Prop := r.val < 16 ∨ 16 ≤ j.port.toNat ∧ j.port.toNat ≤ 19

theorem RecvDec.autoLearn_expect_learned {d : RecvDec} {g : Config} {r : Recv} {j : Identity} (ident : d.ident = some j)
    (on : g.autoLearn = true) (unset : d.expect = none) (fits : learnFits r j) :
    (d.autoLearn g r).expect = some j := by
  unfold RecvDec.autoLearn learnFits at *
  simp [ident, on, unset, fits]

theorem RecvDec.autoLearn_expect_kept {d : RecvDec} {g : Config} {r : Recv} (h : d.ident = none ∨ g.autoLearn = false ∨
    d.expect ≠ none ∨ ∃ j, d.ident = some j ∧ ¬learnFits r j) : (d.autoLearn g r).expect = d.expect := by
  unfold RecvDec.autoLearn
  split
  next j ident =>
    refine (congrArg RecvDec.expect (if_neg ?_))
    simp only [Bool.and_eq_true, Bool.or_eq_true, Option.isNone_iff_eq_none, decide_eq_true_eq]
    rintro ⟨⟨on, unset⟩, fits⟩
    rcases h with h | h | h | ⟨j', h, misfit⟩
    · rw [ident] at h; cases h
    · rw [on] at h; cases h
    · exact h unset
    · rw [ident] at h; cases h; exact misfit fits
  next => rfl

/-- A changed identity is learned (R22). -/
theorem RecvDec.afterSlot_learns {d : RecvDec} {g : Config} {r : Recv} {x : Sample} {j : Identity}
    (ident : (d.afterSlot g r x).ident = some j) (changed : (d.afterSlot g r x).ident ≠ d.ident)
    (on : g.autoLearn = true) (unset : d.expect = none) (fits : learnFits r j) :
    (d.afterSlot g r x).expect = some j := by
  rw [RecvDec.afterSlot_ident] at ident changed
  rw [RecvDec.afterSlot, if_neg changed]
  exact RecvDec.autoLearn_expect_learned ident on (by rw [RecvDec.take_expect, unset]) fits

theorem RecvDec.afterSlot_keeps_expect {d : RecvDec} {g : Config} {r : Recv} {x : Sample}
    (h : (d.afterSlot g r x).ident = d.ident ∨ (d.afterSlot g r x).ident = none ∨ g.autoLearn = false ∨
      d.expect ≠ none ∨ ∃ j, (d.afterSlot g r x).ident = some j ∧ ¬learnFits r j) :
    (d.afterSlot g r x).expect = d.expect := by
  rw [RecvDec.afterSlot_ident] at h
  unfold RecvDec.afterSlot
  split
  · exact RecvDec.take_expect d _
  next changed =>
    rw [RecvDec.autoLearn_expect_kept, RecvDec.take_expect]
    rw [RecvDec.take_expect]
    exact h.resolve_left changed

/-- A valid tracer sample (R20). -/
theorem RecvDec.afterSlot_of_some {d : RecvDec} {x : Sample} {i : Identity} (g : Config) (r : Recv)
    (h : tracerIdentity x = some i) : let e := d.afterSlot g r x
    e.cand = some i ∧ e.absence = 0 ∧ e.repeats = (if d.cand = some i then min 8 (d.repeats + 1) else 1) ∧
      e.ident = if e.repeats = 8 then some i else d.ident := by
  rw [RecvDec.afterSlot_eq, h]
  exact ⟨rfl, rfl, rfl, rfl⟩

/-- An invalid tracer sample (R20, R21). -/
theorem RecvDec.afterSlot_of_none {d : RecvDec} {x : Sample} (g : Config) (r : Recv) (h : tracerIdentity x = none) :
    let e := d.afterSlot g r x
    e.cand = none ∧ e.repeats = 0 ∧ e.absence = min 100 (d.absence + 1) ∧
      e.ident = if e.absence = 100 then none else d.ident := by
  rw [RecvDec.afterSlot_eq, h]
  exact ⟨rfl, rfl, rfl, rfl⟩

/-! ## The slot completion -/

/-- What a slot completion leaves in the blocks it touches, once the changes are handed on. -/
structure SlotTaken (s t : State) (x : Sample) : Prop where
  exec : exec .slotCompletion s = .next t
  scan : t.scan = s.scanSlot
  dec : t.dec =
    { s.dec with recvs := tset s.dec.recvs s.scan.next ((s.decv s.scan.next).afterSlot s.config s.scan.next x) }
  frame : EventFrame { s with scan := t.scan, dec := t.dec, cap := t.cap } t

/-- From the settling on a slot completion takes the good answer kept, or the sample held (R1, R3). -/
theorem slotCompletion_takes {s : State} (hs : s.settled = true) :
    ∃ t, SlotTaken s t (s.scan.kept.getD (s.recv s.scan.next).last) := by
  set s1 : State := { s with scan := s.scanSlot } with hs1
  have sample : (s1.recv s.scan.next).last = s.scan.kept.getD (s.recv s.scan.next).last := by
    rw [(held_after_slot (s := s) (t := s1) rfl).1, RecvScan.hold_last]
  set u := decodeSlot s1 s.scan.next (s.scan.kept.getD (s.recv s.scan.next).last) with hu
  have f := conclude_frame s u
  have shape : u = { s with scan := s.scanSlot, dec := u.dec, cap := u.cap } := decodeSlot_eq s1 _ _
  have scan : (conclude s u).scan = s.scanSlot := by rw [f.scan, shape]
  refine ⟨conclude s u, ?_, scan, ?_, ?_⟩
  · rw [hu, ← sample]
    exact if_pos hs
  · rw [f.dec, hu, decodeSlot_dec]; rfl
  · rw [scan, f.dec, f.cap, ← shape]
    exact f

/-- Settles O11: the slot's receiver, countdown and identity by their own rules, and the rest by the frame. -/
theorem slotTakesOneSample : Obligations.SlotTakesOneSample := by
  intro s hs
  refine ⟨fun a => ⟨execSampleAnswer_keeps hs, execSampleAnswer_discards⟩, ?_⟩
  obtain ⟨t, exec, scan, dec, frame⟩ := slotCompletion_takes hs
  refine ⟨t, exec, ?_, frame⟩
  intro r x w valid i d e fits
  obtain ⟨last, errors⟩ := held_after_slot scan
  obtain ⟨los, low, deg⟩ := RecvScan.hold_conditions (s.recv r) s.scan.kept
  have decoded : e = d.afterSlot s.config r x := by
    simp only [e, State.decv, dec, tget_tset_same, d, r, x]
  refine ⟨by rw [scan]; rfl, by rw [scan]; rfl, last.trans (RecvScan.hold_last _ _),
    errors.trans (RecvScan.hold_errors _ _), ?_, ?_, maskLeft_after_slot scan, ?_, ?_, ?_, ?_, ?_, by rw [dec]⟩
  · intro unmasked
    rw [recv_after_unmasked_slot scan unmasked]
    rw [← los, ← low, ← deg]
    exact ⟨rfl, rfl, rfl⟩
  · intro masked
    rw [recv_after_masked_slot scan masked]
    exact ⟨los, low, deg⟩
  · rintro ⟨tracer, check⟩
    rw [decoded]
    exact RecvDec.afterSlot_of_some _ _ (tracerIdentity_of_valid tracer check)
  · intro invalid
    rw [decoded]
    exact RecvDec.afterSlot_of_none _ _ (tracerIdentity_of_not_valid invalid)
  · rw [decoded]
    exact fun j => RecvDec.afterSlot_learns
  · rw [decoded]
    exact RecvDec.afterSlot_keeps_expect
  · intro q other
    refine ⟨recv_after_slot_ne scan other, maskLeft_after_slot_ne scan other, ?_⟩
    rw [State.decv, dec]
    exact tget_tset_ne _ other.symm _

end Sys2Proof.Machine
end

section
/-! SUPPORT. What leaves the Tracer Decoder as it is: the operations outside chapter 2, and how LRN and a restart write
expectations (O16, O53). -/

namespace Sys2Proof.Machine

/-! ## The end of an event -/

@[simp] theorem handOn_dec (s : State) : (handOn s).dec = s.dec := (handOn_frame s).dec
@[simp] theorem conclude_dec (s0 s : State) : (conclude s0 s).dec = s.dec := (conclude_frame s0 s).dec

theorem foldl_dec {α : Type} (f : State → α → State) (hf : ∀ s x, (f s x).dec = s.dec) (l : List α) (s : State) :
    (l.foldl f s).dec = s.dec := by
  induction l generalizing s with
  | nil => rfl
  | cons x xs ih => exact (ih (f s x)).trans (hf s x)

/-! ## The shared operations -/

@[simp] theorem endStep_dec (s : State) (r : ExResult) : (endStep s r).dec = s.dec := triggerIf_dec _ _

@[simp] theorem stepReplaced_dec (s : State) : (stepReplaced s).dec = s.dec := by
  unfold stepReplaced; split
  · exact endStep_dec s _
  · rfl

@[simp] theorem putEntry_dec (s : State) (p : Port) (e : Option Entry) : (putEntry s p e).dec = s.dec := by
  unfold putEntry; split <;> rfl

@[simp] theorem restartRetry_dec (s : State) (p : Port) : (restartRetry s p).dec = s.dec := rfl

@[simp] theorem ask_dec (s : State) (p : Port) (c : Cmd) (m : Maker) (b : Bool) : (ask s p c m b).dec = s.dec := by
  unfold ask
  split
  · exact putEntry_dec s p _
  · dsimp only
    split <;> split <;> simp

@[simp] theorem setTiming_dec (s : State) (st : TimingState) : (setTiming s st).dec = s.dec := triggerIf_dec _ _

@[simp] theorem enterHoldover_dec (s : State) : (enterHoldover s).dec = s.dec := by
  unfold enterHoldover; split <;> exact setTiming_dec _ _

@[simp] theorem reselect_dec (s : State) : (reselect s).dec = s.dec := by
  unfold reselect
  split
  · rfl
  · dsimp only
    split
    · exact setTiming_dec _ _
    · split
      · exact enterHoldover_dec _
      · rfl

@[simp] theorem refresh_dec (s : State) (n : Station) : (refresh s n).dec = s.dec := triggerIf_dec _ _

@[simp] theorem unheardEval_dec (s : State) : (unheardEval s).dec = s.dec := by unfold unheardEval; split <;> rfl

@[simp] theorem unheardEnd_dec (s : State) (a : Announce) : (unheardEnd s a).dec = s.dec := by
  unfold unheardEnd; split
  · exact requestTrigger_dec _
  · rfl

@[simp] theorem takeAnnounce_dec (s : State) (n : Station) (a : Announce) : (takeAnnounce s n a).dec = s.dec := by
  simp [takeAnnounce]

@[simp] theorem correct_dec (s : State) (hit : Bool) : (correct s hit).dec = s.dec := setTiming_dec _ _

@[simp] theorem completeGate_dec (s : State) (c : Cand) (count : Nat) : (completeGate s c count).dec = s.dec := by
  unfold completeGate
  dsimp only
  split <;> simp

@[simp] theorem edgeBack_dec (s : State) (c : Cand) : (edgeBack s c).dec = s.dec := by
  unfold edgeBack
  dsimp only
  split <;> rfl

@[simp] theorem beginWork_dec (s : State) (g : Config) (d : Bool) (temp : BitVec 9) :
    (beginWork s g d temp).dec = s.dec := by
  unfold beginWork
  refine foldl_dec _ (fun u p => ?_) (idx 16) _
  split
  · exact ask_dec u p _ _ _
  · rfl

@[simp] theorem settle_dec (s : State) (i : RawImage) (d : Bool) (temp : BitVec 9) : (settle s i d temp).dec = s.dec := by
  simp [settle]

@[simp] theorem readFailed_dec (s : State) (second : Bool) (temp : BitVec 9) :
    (readFailed s second temp).dec = s.dec := by
  unfold readFailed; split
  · exact settle_dec s _ _ _
  · rfl

@[simp] theorem placeRecord_dec (s : State) (p : Port) : (placeRecord s p).dec = s.dec := by
  unfold placeRecord
  dsimp only
  split <;> rfl

@[simp] theorem beginStart_dec (s : State) (straps : BitVec 5) : (beginStart s straps).dec = s.dec := rfl

@[simp] theorem lineQuiet_dec (s : State) : (lineQuiet s).dec = s.dec := rfl

@[simp] theorem dropFrame_dec (s : State) (c : FrameClass) : (dropFrame s c).dec = s.dec := conclude_dec _ _

@[simp] theorem respond_dec (s : State) (src : Station) (code : Byte) (r : Result) (data : List Byte) :
    (respond s src code r data).dec = s.dec := rfl

@[simp] theorem sweepStart_dec (s : State) (sp : Spare) (m : Mode) (n : Nat) (k : Bool) (f : Option Port) :
    (sweepStart s sp m n k f).dec = s.dec := by
  unfold sweepStart
  dsimp only
  split <;> rfl

@[simp] theorem sweepStop_dec (s : State) : (sweepStop s).dec = s.dec := by
  unfold sweepStop
  dsimp only
  split
  · rfl
  · split <;> rfl

@[simp] theorem lockCand_dec (s : State) (c : Cand) (on : Bool) : (lockCand s c on).dec = s.dec := by
  unfold lockCand
  dsimp only
  split <;> split <;> rfl

@[simp] theorem readCapture_dec (s : State) : (readCapture s).dec = s.dec := by unfold readCapture; split <;> rfl

@[simp] theorem clearLatches_dec (s : State) : (clearLatches s).dec = s.dec := by simp only [clearLatches]
@[simp] theorem acknowledge_dec (s : State) : (acknowledge s).dec = s.dec := by simp only [acknowledge]

/-! ## LRN and LRN ALL (R26, R27) -/

theorem learnable_iff (s : State) (r : Recv) :
    s.learnable r = true ↔ ∃ i, (s.decv r).ident = some i ∧ learnFits r i := by
  unfold State.learnable learnFits
  split
  · next h => simp [h]
  · next i h => simp [h]

/-- A receiver of the Decoder after LRN of it. -/
def State.learned (s : State) (r : Recv) : RecvDec :=
  if s.learnable r then { s.decv r with expect := (s.decv r).ident } else s.decv r

theorem learn_decv_same (s : State) (r : Recv) : (learn s r).decv r = s.learned r := by
  unfold learn State.learned
  split
  · exact tget_tset_same _ _ _
  · rfl

theorem learn_decv_ne (s : State) {r z : Recv} (h : r ≠ z) : (learn s r).decv z = s.decv z := by
  unfold learn
  split
  · exact tget_tset_ne _ h _
  · rfl

theorem learned_ident (s : State) (r : Recv) : (s.learned r).ident = (s.decv r).ident := by
  unfold State.learned; split <;> rfl

/-- A receiver can be learned by its decoded identity alone. -/
theorem learnable_congr {s t : State} {r : Recv} (h : (t.decv r).ident = (s.decv r).ident) :
    t.learnable r = s.learnable r := by
  unfold State.learnable; rw [h]

theorem learned_learned {s t : State} {r : Recv} (h : t.decv r = s.learned r) : t.learned r = s.learned r := by
  have same : t.learnable r = s.learnable r := learnable_congr (by rw [h, learned_ident])
  unfold State.learned at h ⊢
  rw [same, h]
  split <;> rfl

theorem learned_congr {s t : State} {r : Recv} (h : t.decv r = s.decv r) : t.learned r = s.learned r := by
  unfold State.learned; rw [learnable_congr (congrArg RecvDec.ident h), h]

/-- Learning in turn is learning each: what one receiver learns bears on no other. -/
theorem foldl_learn_decv (l : List Recv) (s : State) (z : Recv) :
    (l.foldl learn s).decv z = if z ∈ l then s.learned z else s.decv z := by
  induction l generalizing s with
  | nil => rfl
  | cons r l ih =>
    rw [List.foldl_cons, ih]
    by_cases h : r = z
    · subst h
      simp [learn_decv_same, learned_learned (learn_decv_same s r)]
    · have kept := learn_decv_ne s h
      simp [kept, learned_congr kept, Ne.symm h]

theorem learnAll_decv (s : State) (z : Recv) : (learnAll s).decv z = s.learned z :=
  (foldl_learn_decv (idx 20) s z).trans (if_pos (mem_idx z))

end Sys2Proof.Machine
end

section
/-! SUPPORT. An expectation once set stays set (O16): what each command does to the expectations. -/

namespace Sys2Proof.Machine

/-! ## The relation -/

/-- Every expectation set in `s` is set in `t` (R22). -/
def KeepsExpectations (s t : State) : Prop :=
  ∀ r, (s.decv r).expect.isSome = true → (t.decv r).expect.isSome = true

theorem KeepsExpectations.trans {s t u : State} (h : KeepsExpectations s t) (g : KeepsExpectations t u) :
    KeepsExpectations s u := fun r => g r ∘ h r

/-- What leaves the Decoder's receivers as they are leaves the expectations. -/
theorem keepsExpectations_of_recvs {s t : State} (h : t.dec.recvs = s.dec.recvs) : KeepsExpectations s t := by
  intro r; unfold State.decv; rw [h]; exact id

theorem keepsExpectations_of_dec {s t : State} (h : t.dec = s.dec) : KeepsExpectations s t :=
  keepsExpectations_of_recvs (congrArg Decoder.recvs h)

theorem KeepsExpectations.refl (s : State) : KeepsExpectations s s := keepsExpectations_of_dec rfl

theorem KeepsExpectations.then_dec {s t u : State} (h : KeepsExpectations s t) (g : u.dec = t.dec) :
    KeepsExpectations s u := h.trans (keepsExpectations_of_dec g)

/-! ## The commands that touch the Decoder -/

/-- Auto-learn replaces an expectation only by an identity. -/
theorem RecvDec.autoLearn_expect_isSome {d : RecvDec} (g : Config) (r : Recv) (h : d.expect.isSome = true) :
    (d.autoLearn g r).expect.isSome = true := by
  rw [RecvDec.autoLearn_expect_kept (.inr (.inr (.inl (Option.isSome_iff_ne_none.1 h))))]
  exact h

theorem RecvDec.afterSlot_expect_isSome {d : RecvDec} (g : Config) (r : Recv) (x : Sample)
    (h : d.expect.isSome = true) : (d.afterSlot g r x).expect.isSome = true := by
  have taken : (d.take (tracerIdentity x)).expect.isSome = true := by rw [RecvDec.take_expect]; exact h
  unfold RecvDec.afterSlot
  split
  · exact taken
  · exact RecvDec.autoLearn_expect_isSome g r taken

theorem decodeSlot_keepsExpectations (s : State) (r : Recv) (x : Sample) : KeepsExpectations s (decodeSlot s r x) := by
  intro z hz
  simp only [State.decv, decodeSlot_dec, tget_tset]
  split
  · next h => subst h; exact RecvDec.afterSlot_expect_isSome _ _ _ hz
  · exact hz

/-- A learned expectation is a decoded identity, so it is set (R26). -/
theorem learned_expect_isSome {s : State} {r : Recv} (h : (s.decv r).expect.isSome = true) :
    (s.learned r).expect.isSome = true := by
  unfold State.learned
  split
  · next learnable =>
    obtain ⟨i, ident, -⟩ := (learnable_iff s r).1 learnable
    exact Option.isSome_iff_exists.2 ⟨i, ident⟩
  · exact h

theorem learn_keepsExpectations (s : State) (r : Recv) : KeepsExpectations s (learn s r) := by
  intro z hz
  by_cases h : r = z
  · subst h; rw [learn_decv_same]; exact learned_expect_isSome hz
  · rw [learn_decv_ne s h]; exact hz

theorem learnAll_keepsExpectations (s : State) : KeepsExpectations s (learnAll s) := by
  intro z hz; rw [learnAll_decv]; exact learned_expect_isSome hz

/-- A restart clears the rest of the Decoder (R33). -/
theorem restart_keepsExpectations (s : State) (straps : BitVec 5) : KeepsExpectations s (restart s straps) := by
  intro r hr
  have kept : ((restart s straps).decv r).expect = (s.decv r).expect := by
    simp [State.decv, restart, Decoder.restarted]
  rw [kept]; exact hr

/-! ## Requests -/

theorem requestEffect_keepsExpectations (s : State) (r : Request) : KeepsExpectations s (requestEffect s r) := by
  cases r with
  | lrn rc => exact learn_keepsExpectations s rc
  | lrnAll => exact learnAll_keepsExpectations s
  | mask p on => exact keepsExpectations_of_recvs rfl
  | capr => exact keepsExpectations_of_dec (readCapture_dec s)
  | clrl => exact keepsExpectations_of_dec (clearLatches_dec s)
  | aco => exact keepsExpectations_of_dec (acknowledge_dec s)
  | slk sp on => exact keepsExpectations_of_dec (triggerIf_dec _ _)
  | trefLockout c on => exact keepsExpectations_of_dec (lockCand_dec s c on)
  | swpStart sp m n k f => exact keepsExpectations_of_dec (sweepStart_dec s sp m n k f)
  | swpStop => exact keepsExpectations_of_dec (sweepStop_dec s)
  | stat | view | portPart | spar | timgStation | timgCand | logr | force | manual | lockout | clear
  | trefForce | trefClear | swpStep | pairClear | rsta => exact keepsExpectations_of_dec rfl

/-- The handling of a request by its cases: it ends with the event's end alone, or after ACO or CLRL for ALL, or after the
effect of a request of the dictionary; a response leaves the Decoder (R179, R180). -/
theorem takeRequest_keepsExpectations (s0 s : State) (src : Station) (all : Bool) (payload : List Byte) :
    KeepsExpectations s (takeRequest s0 s src all payload) := by
  have untouched : ∀ {t : State}, t.dec = s.dec → KeepsExpectations s t := keepsExpectations_of_dec
  unfold takeRequest
  dsimp only
  split
  · exact untouched (conclude_dec s0 s)
  split
  · unfold takeForAll
    split
    · split <;> exact untouched (by simp)
    · exact untouched (conclude_dec s0 s)
  split
  · exact untouched (conclude_dec s0 s)
  split
  · exact untouched (conclude_dec s0 s)
  split
  · exact untouched (conclude_dec s0 s)
  split
  · exact untouched (conclude_dec s0 s)
  · unfold takeValid
    split
    · exact untouched (conclude_dec s0 s)
    · exact (requestEffect_keepsExpectations s _).then_dec (conclude_dec s0 _)

theorem handRequest_keepsExpectations (s0 s : State) (src : Station) (tgt : BitVec 6) (payload : List Byte) :
    KeepsExpectations s (handRequest s0 s src tgt payload) := by
  have handed : KeepsExpectations s (handOn (refresh s src)) := keepsExpectations_of_dec (by simp)
  unfold handRequest
  dsimp only
  split
  · exact handed.trans (takeRequest_keepsExpectations s0 _ src true payload)
  split
  · exact handed.trans (takeRequest_keepsExpectations s0 _ src false payload)
  · exact keepsExpectations_of_dec (by simp)

theorem requestArrives_keepsExpectations (s : State) (src : Station) (tgt : BitVec 6) (payload : List Byte) :
    KeepsExpectations s (requestArrives s src tgt payload) := by
  unfold requestArrives
  split
  · exact handRequest_keepsExpectations s (lineQuiet s) src tgt payload
  · exact keepsExpectations_of_dec (lineQuiet_dec s)

theorem handFrame_keepsExpectations (s0 s : State) (f : Frame) : KeepsExpectations s (handFrame s0 s f) := by
  unfold handFrame
  dsimp only
  split
  · split
    · exact keepsExpectations_of_dec (by simp)
    · exact .refl s
  split
  · exact handRequest_keepsExpectations s0 s _ _ _
  · exact keepsExpectations_of_dec (by simp)

/-! ## Every command -/

/-- The state after every outcome has the Decoder of `s`. -/
def LeavesDecoder (s : State) (o : Host.Outcome State Fault Refusal) : Prop := EveryNext (fun t => t.dec = s.dec) o

theorem leavesDecoder_next {s t : State} (h : t.dec = s.dec) : LeavesDecoder s (.next t) := (everyNext_next _ _).2 h

/-- An event under a condition, which otherwise changes nothing. -/
theorem leavesDecoder_ite {c : Prop} [Decidable c] {s t : State} (h : t.dec = s.dec) :
    LeavesDecoder s (if c then .next t else .next s) := everyNext_ite h rfl

theorem execConfigReadEnd_leavesDecoder (r : ConfigRead) (temp : BitVec 9) (s : State) :
    LeavesDecoder s (execConfigReadEnd r temp s) := by
  unfold execConfigReadEnd
  split
  · split
    · exact everyNext_ite (settle_dec s _ _ _) (readFailed_dec s _ _)
    · exact leavesDecoder_next (readFailed_dec s _ _)
  all_goals exact leavesDecoder_next rfl

theorem execConfigReadTimeout_leavesDecoder (temp : BitVec 9) (s : State) :
    LeavesDecoder s (execConfigReadTimeout temp s) := by
  unfold execConfigReadTimeout
  split
  · exact leavesDecoder_ite (readFailed_dec s _ _)
  all_goals exact leavesDecoder_next rfl

theorem execAttemptStart_leavesDecoder (elapsed : Nat) (s : State) : LeavesDecoder s (execAttemptStart elapsed s) := by
  unfold execAttemptStart
  split
  · exact leavesDecoder_next rfl
  split
  · split <;> exact leavesDecoder_next rfl
  · exact leavesDecoder_next rfl

theorem execClaimWindowExpiry_leavesDecoder (w : WindowOwner) (s : State) :
    LeavesDecoder s (execClaimWindowExpiry w s) := by
  unfold execClaimWindowExpiry
  split
  · exact leavesDecoder_ite (by simp)
  split
  · exact leavesDecoder_ite (by simp)
  · exact leavesDecoder_next rfl

theorem actuationEnd_dec (s : State) (f : InFlight) (r : Option Reply) : (actuationEnd s f r).dec = s.dec := rfl

theorem execDriverAnswer_leavesDecoder (a : DriverAnswer) (s : State) : LeavesDecoder s (execDriverAnswer a s) := by
  unfold execDriverAnswer
  split
  · exact leavesDecoder_ite (by simp [actuationEnd_dec])
  · exact leavesDecoder_next rfl

theorem execAllowanceExpiry_leavesDecoder (s : State) : LeavesDecoder s (execAllowanceExpiry s) := by
  unfold execAllowanceExpiry
  split
  · exact leavesDecoder_ite (by simp [actuationEnd_dec])
  · exact leavesDecoder_next rfl

theorem execRetryTimerExpiry_leavesDecoder (p : Port) (s : State) : LeavesDecoder s (execRetryTimerExpiry p s) := by
  unfold execRetryTimerExpiry
  split
  · split
    · exact everyNext_ite (by simp) (by simp)
    · exact leavesDecoder_next rfl
  · exact leavesDecoder_next rfl

theorem execStepTimerExpiry_leavesDecoder (s : State) : LeavesDecoder s (execStepTimerExpiry s) := by
  unfold execStepTimerExpiry
  dsimp only
  split
  · exact everyNext_ite (by simp) rfl
  · exact leavesDecoder_next rfl

theorem execSecondsTick_leavesDecoder (temp : BitVec 9) (s : State) : LeavesDecoder s (execSecondsTick temp s) := by
  have ticked : (tickSeconds s temp).dec = s.dec := rfl
  unfold execSecondsTick
  dsimp only
  split
  · exact everyNext_ite (by simp [ticked]) (by simp [ticked])
  · exact leavesDecoder_next rfl

theorem execListenEnd_leavesDecoder (s : State) : LeavesDecoder s (execListenEnd s) := by
  unfold execListenEnd
  split
  · exact leavesDecoder_ite (by simp [foldl_dec placeRecord placeRecord_dec])
  all_goals exact leavesDecoder_next rfl

theorem execFrameSent_keepsExpectations (straps : BitVec 5) (s : State) :
    EveryNext (KeepsExpectations s) (execFrameSent straps s) := by
  unfold execFrameSent
  split
  · next x _ =>
    have sent : KeepsExpectations s { s with line := leaveHand s.line x.cls } := keepsExpectations_of_dec rfl
    split
    · exact everyNext_ite (sent.trans (restart_keepsExpectations _ straps)) sent
    · exact (everyNext_next _ _).2 (.refl s)
  · exact (everyNext_next _ _).2 (.refl s)

theorem execCollision_keepsExpectations (straps : BitVec 5) (s : State) :
    EveryNext (KeepsExpectations s) (execCollision straps s) := by
  unfold execCollision
  split
  · next x _ =>
    have dropped : KeepsExpectations s (dropFrame s x.cls) := keepsExpectations_of_dec (dropFrame_dec s x.cls)
    split
    · split
      · exact (everyNext_next _ _).2 (keepsExpectations_of_dec rfl)
      · exact everyNext_ite (dropped.trans (restart_keepsExpectations _ straps)) dropped
    · exact (everyNext_next _ _).2 (.refl s)
  · exact (everyNext_next _ _).2 (.refl s)

theorem execFrameArrival_keepsExpectations (bits : List Bool) (s : State) :
    EveryNext (KeepsExpectations s) (execFrameArrival bits s) := by
  have idle : KeepsExpectations s (lineQuiet s) := keepsExpectations_of_dec rfl
  unfold execFrameArrival
  split
  · split
    · exact everyNext_ite (idle.trans (handFrame_keepsExpectations s _ _)) idle
    · exact (everyNext_next _ _).2 idle
  · exact (everyNext_next _ _).2 idle

theorem execSlotCompletion_keepsExpectations (s : State) :
    EveryNext (KeepsExpectations s) (execSlotCompletion s) := by
  have scanned : KeepsExpectations s { s with scan := s.scanSlot } := keepsExpectations_of_dec rfl
  exact everyNext_ite ((scanned.trans (decodeSlot_keepsExpectations _ _ _)).then_dec (conclude_dec s _)) (.refl s)

/-- Every command but FULL_RESET: those of the Decoder, the requests and the restarts by the lemmas above, every other one
because it leaves the Decoder. -/
theorem exec_keepsExpectations (i : Instr) (s : State) (hi : ∀ straps, i ≠ .fullReset straps) :
    EveryNext (KeepsExpectations s) (exec i s) := by
  have outside : ∀ {o : Host.Outcome State Fault Refusal}, LeavesDecoder s o → EveryNext (KeepsExpectations s) o :=
    fun h t ht => keepsExpectations_of_dec (h t ht)
  cases hr : requestOf i with
  | some r =>
    obtain ⟨src, tgt, payload⟩ := r
    rw [exec_of_requestOf s hr, everyNext_next]
    exact requestArrives_keepsExpectations s src tgt payload
  | none =>
    cases i with
    | fullReset straps => exact absurd rfl (hi straps)
    | slotCompletion => exact execSlotCompletion_keepsExpectations s
    | frameArrival bits => exact execFrameArrival_keepsExpectations bits s
    | collision straps => exact execCollision_keepsExpectations straps s
    | frameSent straps => exact execFrameSent_keepsExpectations straps s
    | configReadEnd r temp => exact outside (execConfigReadEnd_leavesDecoder r temp s)
    | configReadTimeout temp => exact outside (execConfigReadTimeout_leavesDecoder temp s)
    | attemptStart elapsed => exact outside (execAttemptStart_leavesDecoder elapsed s)
    | claimWindowExpiry w => exact outside (execClaimWindowExpiry_leavesDecoder w s)
    | driverAnswer a => exact outside (execDriverAnswer_leavesDecoder a s)
    | allowanceExpiry => exact outside (execAllowanceExpiry_leavesDecoder s)
    | retryTimerExpiry p => exact outside (execRetryTimerExpiry_leavesDecoder p s)
    | stepTimerExpiry => exact outside (execStepTimerExpiry_leavesDecoder s)
    | secondsTick temp => exact outside (execSecondsTick_leavesDecoder temp s)
    | listenEnd => exact outside (execListenEnd_leavesDecoder s)
    | lineActivity | lineIdle => exact outside (leavesDecoder_next rfl)
    | sampleAnswer | spacingTimerExpiry | routineTimerExpiry | gateStart => exact outside (leavesDecoder_ite rfl)
    | linefaultTimerExpiry | quarantineEnd | holdoffExpiry | wtrExpiry | recoveryTimerExpiry | edgeLoss | edgeReturn
    | gateCompletion | gateOverrun | holdoverLimitExpiry | peerExpiry | silenceTimerExpiry | unheardTimerExpiry =>
      exact outside (leavesDecoder_ite (by simp))
    | _ => cases hr

/-- Settles O16: every command but FULL_RESET keeps the expectations. -/
theorem expectationLastsUntilFullReset : Obligations.ExpectationLastsUntilFullReset :=
  fun c s t r hc ht => exec_keepsExpectations c s hc t ht r

end Sys2Proof.Machine
end

section
/-! SUPPORT. Runs of samples at a receiver's Decoder (O14): what a run of one identity and a run of invalid samples come
to. -/

namespace Sys2Proof.Machine

/-! ## A run of one identity (R20) -/

/-- The same word again is counted up to 8. -/
theorem RecvDec.take_some_repeats {d : RecvDec} {i : Identity} (h : d.cand = some i) :
    (d.take (some i)).repeats = min 8 (d.repeats + 1) := if_pos h

/-- Another word begins its own count. -/
theorem RecvDec.take_some_repeats_new {d : RecvDec} {i : Identity} (h : d.cand ≠ some i) :
    (d.take (some i)).repeats = 1 := if_neg h

/-- The eighth identical word is the decoded identity. -/
theorem RecvDec.take_some_ident (d : RecvDec) (i : Identity) :
    (d.take (some i)).ident = if (d.take (some i)).repeats = 8 then some i else d.ident := rfl

/-- At least as many words are counted as were taken, whatever stood before. -/
theorem RecvDec.iterate_take_some (d : RecvDec) (i : Identity) :
    ∀ k, let e := (fun x : RecvDec => x.take (some i))^[k + 1] d
      e.cand = some i ∧ min 8 (k + 1) ≤ e.repeats
  | 0 => by
    refine ⟨rfl, ?_⟩
    show min 8 1 ≤ (d.take (some i)).repeats
    by_cases h : d.cand = some i
    · rw [RecvDec.take_some_repeats h]; omega
    · rw [RecvDec.take_some_repeats_new h]; omega
  | k + 1 => by
    obtain ⟨cand, counted⟩ := RecvDec.iterate_take_some d i k
    rw [Function.iterate_succ_apply']
    refine ⟨rfl, ?_⟩
    rw [RecvDec.take_some_repeats cand]
    omega

/-- A run from another candidate is counted exactly, and short of 8 it leaves the decoded identity. -/
theorem RecvDec.iterate_take_some_new {d : RecvDec} {i : Identity} (new : d.cand ≠ some i) :
    ∀ k, k + 1 < 8 → let e := (fun x : RecvDec => x.take (some i))^[k + 1] d
      e.cand = some i ∧ e.repeats = k + 1 ∧ e.ident = d.ident
  | 0, _ => by
    have first := RecvDec.take_some_repeats_new new
    refine ⟨rfl, first, ?_⟩
    show (d.take (some i)).ident = d.ident
    rw [RecvDec.take_some_ident, first, if_neg (by decide)]
  | k + 1, hk => by
    obtain ⟨cand, counted, ident⟩ := RecvDec.iterate_take_some_new new k (by omega)
    have next := RecvDec.take_some_repeats cand
    rw [counted, Nat.min_eq_right (by omega)] at next
    rw [Function.iterate_succ_apply']
    refine ⟨rfl, next, ?_⟩
    rw [RecvDec.take_some_ident, next, if_neg (by omega), ident]

/-! ## A run without a word (R21) -/

theorem RecvDec.take_none_absence (d : RecvDec) : (d.take none).absence = min 100 (d.absence + 1) := rfl

/-- The hundredth absence ends the decoded identity. -/
theorem RecvDec.take_none_ident (d : RecvDec) :
    (d.take none).ident = if (d.take none).absence = 100 then none else d.ident := rfl

/-- At least as many absences are counted as were taken. -/
theorem RecvDec.iterate_take_none (d : RecvDec) :
    ∀ k, min 100 k ≤ ((fun x : RecvDec => x.take none)^[k] d).absence
  | 0 => by simp
  | k + 1 => by
    have counted := RecvDec.iterate_take_none d k
    rw [Function.iterate_succ_apply', RecvDec.take_none_absence]
    omega

/-- A run from an absence count of 0 is counted exactly, and short of 100 it leaves the decoded identity. -/
theorem RecvDec.iterate_take_none_fresh {d : RecvDec} (fresh : d.absence = 0) :
    ∀ k, k < 100 → let e := (fun x : RecvDec => x.take none)^[k] d
      e.absence = k ∧ e.ident = d.ident
  | 0, _ => ⟨fresh, rfl⟩
  | k + 1, hk => by
    obtain ⟨counted, ident⟩ := RecvDec.iterate_take_none_fresh fresh k (by omega)
    have next := RecvDec.take_none_absence ((fun x : RecvDec => x.take none)^[k] d)
    rw [counted, Nat.min_eq_right (by omega)] at next
    rw [Function.iterate_succ_apply']
    refine ⟨next, ?_⟩
    rw [RecvDec.take_none_ident, next, if_neg (by omega), ident]

/-- An invalid sample clears the candidate. -/
theorem RecvDec.iterate_take_none_cand (d : RecvDec) (k : Nat) :
    ((fun x : RecvDec => x.take none)^[k + 1] d).cand = none := by
  rw [Function.iterate_succ_apply']; rfl

/-- Settles O14: at the eighth word and at the hundredth absence the counts are full, and before they are exact. -/
theorem identityNeedsAFullRun : Obligations.IdentityNeedsAFullRun := by
  intro d i
  refine ⟨?_, ?_, ?_, ?_⟩
  · obtain ⟨cand, counted⟩ := RecvDec.iterate_take_some d i 6
    rw [Function.iterate_succ_apply', RecvDec.take_some_ident, RecvDec.take_some_repeats cand, if_pos (by omega)]
  · intro new k hk
    cases k with
    | zero => rfl
    | succ k => exact (RecvDec.iterate_take_some_new new k hk).2.2
  · have counted := RecvDec.iterate_take_none d 99
    rw [Function.iterate_succ_apply', RecvDec.take_none_ident, RecvDec.take_none_absence, if_pos (by omega)]
  · intro fresh k pos hk
    obtain ⟨counted, ident⟩ := RecvDec.iterate_take_none_fresh fresh k hk
    obtain ⟨n, rfl⟩ : ∃ n, k = n + 1 := ⟨k - 1, by omega⟩
    exact ⟨ident, RecvDec.iterate_take_none_cand d n, counted⟩

end Sys2Proof.Machine
end

section
/-! SUPPORT. The capture record of a slot completion (O15). -/

namespace Sys2Proof.Machine

/-! ## The kind of a record (R29) -/

theorem captureKind_none (expect : Option Identity) : captureKind none expect = .lost := rfl

theorem captureKind_unset (i : Identity) : captureKind (some i) none = .unlearned := rfl

theorem captureKind_set (i e : Identity) :
    captureKind (some i) (some e) = if i = e then .isMatch else .mismatch := by simp [captureKind]

/-! ## The queue (R30) -/

theorem Capture.append_of_lt {c : Capture} (r : CaptureRec) (h : c.queue.length < 4) :
    c.append r = { c with queue := c.queue ++ [r] } := if_pos h

theorem Capture.append_of_full {c : Capture} (r : CaptureRec) (h : 4 ≤ c.queue.length) :
    c.append r = { c with lost := true } := if_neg (by omega)

/-! ## The decoding of a sample -/

/-- The record that a change of a receiver's decoded identity builds, from the expectation before any auto-learn (R29). -/
def State.captureOf (s : State) (r : Recv) (new : Option Identity) : CaptureRec :=
  ⟨r, (s.decv r).ident, new, s.freq.seconds, captureKind new (s.decv r).expect⟩

theorem decodeSlot_cap (s : State) (r : Recv) (x : Sample) :
    let new := ((decodeSlot s r x).decv r).ident
    (decodeSlot s r x).cap = if new = (s.decv r).ident then s.cap else s.cap.append (s.captureOf r new) := by
  have ident : ((decodeSlot s r x).decv r).ident = ((s.decv r).take (tracerIdentity x)).ident := by
    rw [State.decv, decodeSlot_dec, tget_tset_same, RecvDec.afterSlot_ident]
  dsimp only
  rw [ident]
  unfold decodeSlot
  dsimp only
  split <;> rfl

/-- A slot completion takes its sample and builds a record at a change alone (R29). -/
theorem slotCompletion_captures {s : State} (hs : s.settled = true) :
    ∃ t x, SlotTaken s t x ∧
      let r := s.scan.next
      let new := (t.decv r).ident
      t.cap = if new = (s.decv r).ident then s.cap else s.cap.append (s.captureOf r new) := by
  obtain ⟨t, taken⟩ := slotCompletion_takes hs
  refine ⟨t, _, taken, ?_⟩
  set u := decodeSlot { s with scan := s.scanSlot } s.scan.next
    (State.recv { s with scan := s.scanSlot } s.scan.next).last
  have exec : exec .slotCompletion s = .next (conclude s u) := if_pos hs
  have ends : t = conclude s u := by simpa [taken.exec] using exec
  have cap : t.cap = u.cap := by rw [ends, (conclude_frame s u).cap]
  have dec : t.dec = u.dec := by rw [ends, (conclude_frame s u).dec]
  unfold State.decv
  rw [cap, dec]
  exact decodeSlot_cap _ _ _

/-- Settles O15: the record by its kind, the queue by its room, and no change without one. -/
theorem identityChangeIsCaptured : Obligations.IdentityChangeIsCaptured := by
  intro s hs
  obtain ⟨t, x, taken, cap⟩ := slotCompletion_captures hs
  refine ⟨t, taken.exec, ?_⟩
  intro r kind rec'
  have record : s.captureOf r (t.decv r).ident = rec' := by
    have judged : captureKind (t.decv r).ident (s.decv r).expect = kind := by
      simp only [kind]
      cases (t.decv r).ident with
      | none => exact captureKind_none _
      | some i =>
        cases (s.decv r).expect with
        | none => exact captureKind_unset i
        | some e => exact captureKind_set i e
    rw [State.captureOf, judged]
  refine ⟨?_, ?_, ?_⟩
  · intro changed room
    rw [cap, if_neg changed, record, Capture.append_of_lt _ room]
  · intro changed full
    rw [cap, if_neg changed, Capture.append_of_full _ full]
  · intro same
    have decoded : t.decv r = (s.decv r).afterSlot s.config r x := by
      rw [State.decv, taken.dec]; exact tget_tset_same _ _ _
    refine ⟨by rw [cap, if_pos same], ?_⟩
    rw [decoded] at same ⊢
    exact RecvDec.afterSlot_keeps_expect (.inl same)

end Sys2Proof.Machine
end

section
/-! SUPPORT. A request that the station takes (O52, O53): the state its handler finds, the response of a DONE and of a
refusal, and the frame of the event around its effect. -/

namespace Sys2Proof.Machine

/-! ## Frames around an effect -/

/-- An effect on the captures. -/
theorem EventFrame.withCap {s t : State} (f : EventFrame s t) (c : Capture) :
    EventFrame { s with cap := c } { t with cap := c } := { f with cap := rfl }

/-- An effect on the Decoder. -/
theorem EventFrame.withDec {s t : State} (f : EventFrame s t) (d : Decoder) :
    EventFrame { s with dec := d } { t with dec := d } := { f with dec := rfl }

/-- The Alarm Unit is outside the frame (R165). -/
theorem EventFrame.withAlm {s t : State} (f : EventFrame s t) (a : Alarm) : EventFrame s { t with alm := a } := { f with }

theorem EventFrame.responses {s t : State} (f : EventFrame s t) : t.line.responses = s.line.responses :=
  (congrArg (fun l : BayLine => l.responses) f.line :)

/-- A response joins both queues alike. -/
theorem EventFrame.withResponse {s t : State} (f : EventFrame s t) (x : Response) :
    EventFrame { s with line := { s.line with responses := s.line.responses ++ [x] } }
      { t with line := { t.line with responses := t.line.responses ++ [x] } } :=
  { f with
    line := by
      have line := f.line
      rw [f.responses]
      exact congrArg (fun l : BayLine => { l with responses := s.line.responses ++ [x] }) line }

/-! ## The state the handler finds (R39) -/

/-- The state in which the Request Handler finds the station: the line idle, the sender refreshed, and what that changes
handed on. -/
def State.received (s : State) (src : Station) : State := handOn (refresh (lineQuiet s) src)

/-- The refresh of the sender is all that the arrival moves outside the frame of the event (R53, R60). -/
theorem received_frame (s : State) (src : Station) : EventFrame
    { s with peers := s.heardFrom src, line := s.lineAfter s.line.responses } (s.received src) :=
  (triggerIf_frame s.peers.isolated _).trans (handOn_frame _)

@[simp] theorem received_alm (s : State) (src : Station) : (s.received src).alm = s.alm := by
  simp [State.received, refresh, lineQuiet]

@[simp] theorem received_dec (s : State) (src : Station) : (s.received src).dec = s.dec := (received_frame s src).dec

@[simp] theorem received_cap (s : State) (src : Station) : (s.received src).cap = s.cap := (received_frame s src).cap

theorem received_running {s : State} (src : Station) (h : s.phase = .running) : (s.received src).phase = .running := by
  rcases (received_frame s src).phase with kept | ⟨readback, -⟩
  · exact kept.trans h
  · exact absurd (h.symm.trans readback) (by decide)

/-! ## The handling of a request that is taken (R179, R180) -/

/-- Every check before the request's own dictionary entry is passed. -/
theorem Takes.arrives_eq {s : State} {src : Station} {tgt : BitVec 6} (h : Takes s src tgt) {code : Byte}
    {params : List Byte} {r : Request} (parsed : parse (code :: params) = some r) :
    requestArrives s src tgt (code :: params) = takeValid s (s.received src) src code r := by
  obtain ⟨running, rx, free, room, craft, other, target⟩ := h
  have own := s.own.isLt
  have frame := received_frame s src
  have hearing : (s.hearing && targetOk tgt && decide (src ≠ s.own) && !(code :: params).isEmpty) = true := by
    simp [State.hearing, State.settled, running, rx, targetOk, other, target, own]
  have notAll : tgt.toNat ≠ 63 := by omega
  have free' : (s.received src).restartPending = false := frame.restartPending.trans free
  have room' : ¬2 ≤ (s.received src).line.responses.length := by
    rw [frame.responses]; exact Nat.not_le.2 room
  have started : (s.received src).startUp = false := by simp [State.startUp, received_running src running]
  unfold requestArrives
  rw [if_pos hearing]
  unfold handRequest
  dsimp only
  rw [if_neg notAll, if_pos (show tgt.toNat = (lineQuiet s).own.val from target)]
  change takeRequest s (s.received src) src false (code :: params) = _
  unfold takeRequest
  simp [free', room', started, parsed, isCraft, craft]

/-- A request that its entry refuses is answered and has no other effect (R179). -/
theorem Takes.refused {s : State} {src : Station} {tgt : BitVec 6} (h : Takes s src tgt) {code : Byte}
    {params : List Byte} {r : Request} {x : Result} (parsed : parse (code :: params) = some r)
    (refusal : (s.received src).refusal r = some x) :
    Answered s s (requestArrives s src tgt (code :: params)) src [code, byte x.code] := by
  rw [h.arrives_eq parsed, takeValid, refusal]
  exact ((received_frame s src).trans (conclude_frame s _)).withResponse ⟨src, _⟩

/-- The state after the effect of a request and the end of its event, before the response joins the queue. -/
def State.executed (s : State) (src : Station) (r : Request) : State :=
  conclude s (requestEffect (s.received src) r)

/-- A request that is executed is answered DONE with its data (R180). -/
theorem Takes.done {s : State} {src : Station} {tgt : BitVec 6} (h : Takes s src tgt) {code : Byte}
    {params : List Byte} {r : Request} (parsed : parse (code :: params) = some r)
    (accepted : (s.received src).refusal r = none) : requestArrives s src tgt (code :: params) =
      respond (s.executed src r) src code .done (requestData (s.received src) (s.executed src r) r) := by
  rw [h.arrives_eq parsed, takeValid, accepted]
  rfl

/-- The answer of a request whose effect `e` on the state is what it leaves outside the frame. -/
theorem answered_done {s e : State} {src : Station} {code : Byte} {r : Request} (data : List Byte)
    (effect : EventFrame { e with peers := s.heardFrom src, line := s.lineAfter s.line.responses }
      (requestEffect (s.received src) r)) :
    Answered s e (respond (s.executed src r) src code .done data) src (code :: 0 :: data) :=
  (effect.trans (conclude_frame s _)).withResponse ⟨src, code :: byte Result.done.code :: data⟩

@[simp] theorem respond_alm (s : State) (src : Station) (code : Byte) (r : Result) (data : List Byte) :
    (respond s src code r data).alm = s.alm := rfl

/-! ## Parameter bytes -/

theorem toNat_byte {n : Nat} (h : n < 256) : (byte n).toNat = n := by
  simpa [byte] using Nat.mod_eq_of_lt h

theorem finOf_byte {n : Nat} (h : n ≤ 256) (i : Fin n) : finOf n (byte i.val) = some i := by
  have small := toNat_byte (Nat.lt_of_lt_of_le i.isLt h)
  unfold finOf
  simp [small]

/-! ## The log over an event -/

/-- What an event does to the log: its records follow, and LOGOVR becomes active only where they fill it (R175). -/
theorem settle_log (s : State) (old : Vector Point 158) : ∃ new,
    (Alarm.settle s old).log = s.alm.log ++ new ∧
      ((s.alm.log ++ new).length < 32 → (Alarm.settle s old).logOvr = s.alm.logOvr) ∧
      (s.alm.logOvr = true → (Alarm.settle s old).logOvr = true) := by
  set built := records old s.pointsNow s.freq.seconds
  have ovr : (Alarm.settle s old).logOvr =
      (s.alm.logOvr || decide (logCapacity - s.alm.log.length < built.length)) := rfl
  refine ⟨built.take (logCapacity - s.alm.log.length), rfl, ?_, ?_⟩
  · intro short
    have fits : ¬logCapacity - s.alm.log.length < built.length := by
      simp only [List.length_append, List.length_take, logCapacity] at short ⊢
      omega
    rw [ovr, decide_eq_false fits, Bool.or_false]
  · intro full
    rw [ovr, full, Bool.true_or]

/-- The same over an event of normal running. -/
theorem conclude_log (s0 : State) {s : State} (h : s.phase = .running) : ∃ new,
    (conclude s0 s).alm.log = s.alm.log ++ new ∧
      ((s.alm.log ++ new).length < 32 → (conclude s0 s).alm.logOvr = s.alm.logOvr) ∧
      (s.alm.logOvr = true → (conclude s0 s).alm.logOvr = true) := by
  have running : (handOn s).running = true := by
    rw [State.running, ← conclude_phase s0 s, conclude_stays_running s0 s h]; rfl
  have settled := settle_log (handOn s) s0.alm.points
  rw [handOn_alm] at settled
  rwa [conclude_alm, if_pos running]

end Sys2Proof.Machine
end

section
/-! SUPPORT. CAPR and LOGR (O52). -/

namespace Sys2Proof.Machine

/-! ## CAPR (R31, R188) -/

theorem parse_capr : parse [7] = some .capr := rfl

theorem readCapture_of_cons {s : State} {x : CaptureRec} {rest : List CaptureRec} (h : s.cap.queue = x :: rest) :
    readCapture s = { s with cap := ⟨rest, false⟩ } := by
  unfold readCapture; rw [h]

theorem readCapture_of_nil {s : State} (h : s.cap.queue = []) : readCapture s = s := by
  unfold readCapture; rw [h]

theorem Takes.capr_removes {s : State} {src : Station} {tgt : BitVec 6} (h : Takes s src tgt) {x : CaptureRec}
    {rest : List CaptureRec} (held : s.cap.queue = x :: rest) :
    Answered s { s with cap := ⟨rest, false⟩ } (requestArrives s src tgt [7]) src
      ([7, 0, 1, byte x.recv.val] ++ identOrNone x.old ++ identOrNone x.new ++ u32 x.seconds.toNat ++
        [byte x.kind.code]) := by
  have found : (s.received src).cap.queue = x :: rest := by rw [received_cap, held]
  have effect := (received_frame s src).withCap ⟨rest, false⟩
  rw [← readCapture_of_cons found] at effect
  have data : requestData (s.received src) (s.executed src .capr) .capr =
      [1, byte x.recv.val] ++ identOrNone x.old ++ identOrNone x.new ++ u32 x.seconds.toNat ++ [byte x.kind.code] := by
    simp [requestData, held, CaptureRec.bytes, u8]
    rfl
  rw [h.done parse_capr rfl, data]
  exact answered_done (r := .capr) _ effect

theorem Takes.capr_of_nil {s : State} {src : Station} {tgt : BitVec 6} (h : Takes s src tgt)
    (empty : s.cap.queue = []) : Answered s s (requestArrives s src tgt [7]) src [7, 0, 0] := by
  have found : (s.received src).cap.queue = [] := by rw [received_cap, empty]
  have effect := received_frame s src
  rw [← readCapture_of_nil found] at effect
  have data : requestData (s.received src) (s.executed src .capr) .capr = [0] := by
    simp [requestData, empty, u8]
    rfl
  rw [h.done parse_capr rfl, data]
  exact answered_done (r := .capr) _ effect

/-! ## LOGR (R176, R187) -/

theorem parse_logr (n : Byte) : parse [6, n] = some (.logr n.toNat) := rfl

theorem Takes.logr_answered {s : State} {src : Station} {tgt : BitVec 6} (h : Takes s src tgt) (n : Byte) :
    let k := s.logTaken n.toNat
    Answered s s (requestArrives s src tgt [6, n]) src ([6, 0, byte k] ++ (s.alm.log.take k).flatMap LogRec.bytes) := by
  have data : requestData (s.received src) (s.executed src (.logr n.toNat)) (.logr n.toNat) =
      byte (s.logTaken n.toNat) :: (s.alm.log.take (s.logTaken n.toNat)).flatMap LogRec.bytes := by
    simp [requestData, State.logTaken, u8]
  rw [h.done (parse_logr n) rfl, data]
  exact answered_done (r := .logr n.toNat) _ ((received_frame s src).withAlm _)

theorem readLog_phase (s : State) (n : Nat) : (readLog s n).phase = s.phase := rfl

theorem readLog_log (s : State) (n : Nat) : (readLog s n).alm.log = s.alm.log.drop (s.logTaken n) := rfl

theorem readLog_logOvr (s : State) (n : Nat) :
    (readLog s n).alm.logOvr = if s.logTaken n = 0 then s.alm.logOvr else false := rfl

theorem received_logTaken (s : State) (src : Station) (n : Nat) : (s.received src).logTaken n = s.logTaken n := by
  simp [State.logTaken]

/-- The records removed leave the log, and those of the event follow the rest (log 32). -/
theorem Takes.logr_log {s : State} {src : Station} {tgt : BitVec 6} (h : Takes s src tgt) (n : Byte) :
    let k := s.logTaken n.toNat
    let t := requestArrives s src tgt [6, n]
    ∃ new, t.alm.log = s.alm.log.drop k ++ new ∧
      (0 < k → (s.alm.log.drop k ++ new).length < 32 → t.alm.logOvr = false) ∧
      (k = 0 → s.alm.logOvr = true → t.alm.logOvr = true) := by
  set u := readLog (s.received src) n.toNat with hu
  have ends : (requestArrives s src tgt [6, n]).alm = (conclude s u).alm := by
    rw [h.done (parse_logr n) rfl, respond_alm]; rfl
  have running : u.phase = .running := by rw [hu, readLog_phase, received_running src h.running]
  have log : u.alm.log = s.alm.log.drop (s.logTaken n.toNat) := by
    rw [hu, readLog_log, received_logTaken, received_alm]
  have ovr : u.alm.logOvr = if s.logTaken n.toNat = 0 then s.alm.logOvr else false := by
    rw [hu, readLog_logOvr, received_logTaken, received_alm]
  obtain ⟨new, appended, kept, stays⟩ := conclude_log s running
  rw [log] at appended kept
  dsimp only
  rw [ends]
  refine ⟨new, appended, ?_, ?_⟩
  · intro removed short
    rw [kept short, ovr, if_neg (by omega)]
  · intro nothing full
    exact stays (by rw [ovr, if_pos nothing, full])

/-- Settles O52: the answers by the state the handler finds, the log by the event's end. -/
theorem logAndCaptureReadsRemoveTheOldest : Obligations.LogAndCaptureReadsRemoveTheOldest := fun _ _ _ h =>
  ⟨fun _ _ held => ⟨_, rfl, h.capr_removes held⟩, fun empty => ⟨_, rfl, h.capr_of_nil empty⟩,
    fun n => ⟨_, rfl, h.logr_answered n, h.logr_log n⟩⟩

end Sys2Proof.Machine
end

section
/-! SUPPORT. LRN and LRN ALL (O53). -/

namespace Sys2Proof.Machine

/-! ## LRN (R26) -/

theorem learnable_of_ident {s : State} {r : Recv} {i : Identity} (ident : (s.decv r).ident = some i)
    (fits : 16 ≤ r.val → 16 ≤ i.port.toNat ∧ i.port.toNat ≤ 19) : s.learnable r = true := by
  refine (learnable_iff s r).2 ⟨i, ident, ?_⟩
  unfold learnFits
  omega

theorem not_learnable {s : State} {r : Recv} (h : (s.decv r).ident = none ∨
    16 ≤ r.val ∧ ∃ i, (s.decv r).ident = some i ∧ ¬(16 ≤ i.port.toNat ∧ i.port.toNat ≤ 19)) :
    s.learnable r = false := by
  rw [Bool.eq_false_iff, ne_eq, learnable_iff]
  rintro ⟨i, ident, fits⟩
  rcases h with absent | ⟨spare, j, ident', misfit⟩
  · rw [absent] at ident; cases ident
  · rw [ident'] at ident; cases ident
    unfold learnFits at fits
    omega

/-- A receiver whose expectation is its decoded identity has neither TIM nor TLOST (R23). -/
theorem timOf_tlostOf_of_expect {s : State} {r : Recv} {i : Identity} (ident : (s.decv r).ident = some i)
    (expect : (s.decv r).expect = some i) : s.timOf r = false ∧ s.tlostOf r = false := by
  simp [State.timOf, State.tlostOf, ident, expect]

@[simp] theorem received_learnable (s : State) (src : Station) (r : Recv) :
    (s.received src).learnable r = s.learnable r := learnable_congr (by simp [State.decv])

theorem parse_lrn (r : Recv) : parse [8, byte r.val] = some (.lrn r) := by
  have small : (byte r.val).toNat = r.val := toNat_byte (by omega)
  have named := finOf_byte (by decide) r
  have notAll : r.val ≠ 255 := by omega
  simp [parse, parse1, small, named, notAll]

theorem learn_of_learnable {s : State} {r : Recv} (h : s.learnable r = true) : learn s r =
    { s with dec := { s.dec with recvs := tset s.dec.recvs r { s.decv r with expect := (s.decv r).ident } } } :=
  if_pos h

/-- The Decoder after LRN of a receiver that can be learned. -/
theorem Takes.lrn_learns {s : State} {src : Station} {tgt : BitVec 6} (h : Takes s src tgt) {r : Recv} {i : Identity}
    (ident : (s.decv r).ident = some i) (learnable : s.learnable r = true) :
    Answered s { s with dec := { s.dec with recvs := tset s.dec.recvs r { s.decv r with expect := some i } } }
      (requestArrives s src tgt [8, byte r.val]) src [8, 0] := by
  have accepted : (s.received src).refusal (.lrn r) = none := by simp [State.refusal, learnable]
  have decv : (s.received src).decv r = s.decv r := by simp [State.decv]
  have effect := (received_frame s src).withDec
    { s.dec with recvs := tset s.dec.recvs r { s.decv r with expect := some i } }
  have learns : learn (s.received src) r = { s.received src with
      dec := { s.dec with recvs := tset s.dec.recvs r { s.decv r with expect := some i } } } := by
    rw [learn_of_learnable (by simp [learnable]), decv, received_dec, ident]
  rw [← learns] at effect
  rw [h.done (parse_lrn r) accepted]
  exact answered_done (r := .lrn r) _ effect

theorem Takes.lrn_refused {s : State} {src : Station} {tgt : BitVec 6} (h : Takes s src tgt) {r : Recv}
    (barred : s.learnable r = false) : Answered s s (requestArrives s src tgt [8, byte r.val]) src [8, 3] :=
  h.refused (parse_lrn r) (x := .state) (by simp [State.refusal, barred])

/-- The Decoder of the answer is that of the effect, so TIM and TLOST are judged on it. -/
theorem Takes.lrn_clears {s : State} {src : Station} {tgt : BitVec 6} (h : Takes s src tgt) {r : Recv} {i : Identity}
    (ident : (s.decv r).ident = some i) (learnable : s.learnable r = true) :
    let t := requestArrives s src tgt [8, byte r.val]
    t.timOf r = false ∧ t.tlostOf r = false := by
  intro t
  have answered : Answered s _ t src [8, 0] := h.lrn_learns ident learnable
  have decv : t.decv r = { s.decv r with expect := some i } := by
    unfold State.decv
    rw [EventFrame.dec answered]
    exact tget_tset_same _ _ _
  exact timOf_tlostOf_of_expect (i := i) (by rw [decv, ident]) (by rw [decv])

/-! ## LRN ALL (R27) -/

theorem parse_lrnAll : parse [8, 255] = some .lrnAll := rfl

/-- LRN touches the Decoder alone, and no maintenance mask. -/
theorem learn_rest (s : State) (r : Recv) :
    learn s r = { s with dec := (learn s r).dec } ∧ (learn s r).dec.maint = s.dec.maint := by
  unfold learn; split <;> exact ⟨rfl, rfl⟩

theorem foldl_learn_rest (l : List Recv) (s : State) :
    l.foldl learn s = { s with dec := (l.foldl learn s).dec } ∧ (l.foldl learn s).dec.maint = s.dec.maint := by
  induction l generalizing s with
  | nil => exact ⟨rfl, rfl⟩
  | cons r l ih =>
    obtain ⟨touched, maint⟩ := learn_rest s r
    obtain ⟨touched', maint'⟩ := ih (learn s r)
    rw [List.foldl_cons]
    refine ⟨touched'.trans ?_, maint'.trans maint⟩
    rw [touched]

theorem learnAll_rest (s : State) :
    learnAll s = { s with dec := (learnAll s).dec } ∧ (learnAll s).dec.maint = s.dec.maint := by
  unfold learnAll; exact foldl_learn_rest (idx 20) s

theorem learned_of_none {s : State} {r : Recv} (h : (s.decv r).ident = none) : s.learned r = s.decv r :=
  if_neg (by simp [not_learnable (.inl h)])

theorem learned_of_some {s : State} {r : Recv} {i : Identity} (h : (s.decv r).ident = some i) : s.learned r =
    { s.decv r with
      expect := if r.val < 16 ∨ 16 ≤ i.port.toNat ∧ i.port.toNat ≤ 19 then some i else (s.decv r).expect } := by
  have learnable : s.learnable r = true ↔ r.val < 16 ∨ 16 ≤ i.port.toNat ∧ i.port.toNat ≤ 19 := by
    simp [learnable_iff, h, learnFits]
  unfold State.learned
  rw [h]
  simp only [learnable]
  split <;> rfl

/-- What is learned changes the expectation where it was another (R27). -/
theorem learned_expect_ne_iff (s : State) (r : Recv) : (s.learned r).expect ≠ (s.decv r).expect ↔
    s.learnable r = true ∧ (s.decv r).ident ≠ (s.decv r).expect := by
  unfold State.learned
  by_cases h : s.learnable r = true <;> simp [h]

theorem learnCount_eq (s : State) :
    s.learnCount = (idx 20).countP fun r => decide ((s.learned r).expect ≠ (s.decv r).expect) := by
  refine List.countP_congr fun r _ => ?_
  rw [decide_eq_true_eq, learned_expect_ne_iff, Bool.and_eq_true, decide_eq_true_eq]

@[simp] theorem received_decv (s : State) (src : Station) (r : Recv) : (s.received src).decv r = s.decv r := by
  simp [State.decv]

theorem received_learnCount (s : State) (src : Station) : (s.received src).learnCount = s.learnCount := by
  simp [State.learnCount]

theorem Takes.lrnAll_dec {s : State} {src : Station} {tgt : BitVec 6} (h : Takes s src tgt) :
    (requestArrives s src tgt [8, 255]).dec = (learnAll (s.received src)).dec := by
  rw [h.done parse_lrnAll rfl, respond_dec]
  exact conclude_dec s _

theorem Takes.lrnAll_decv {s : State} {src : Station} {tgt : BitVec 6} (h : Takes s src tgt) (r : Recv) :
    (requestArrives s src tgt [8, 255]).decv r = s.learned r := by
  have learned := learnAll_decv (s.received src) r
  rw [learned_congr (received_decv s src r)] at learned
  rw [State.decv, h.lrnAll_dec]
  exact learned

theorem Takes.lrnAll_maint {s : State} {src : Station} {tgt : BitVec 6} (h : Takes s src tgt) :
    (requestArrives s src tgt [8, 255]).dec.maint = s.dec.maint := by
  obtain ⟨-, maint⟩ := learnAll_rest (s.received src)
  rw [h.lrnAll_dec, maint, received_dec]

theorem Takes.lrnAll_answered {s : State} {src : Station} {tgt : BitVec 6} (h : Takes s src tgt) :
    let t := requestArrives s src tgt [8, 255]
    Answered s { s with dec := t.dec } t src [8, 0, byte s.learnCount] := by
  obtain ⟨touched, -⟩ := learnAll_rest (s.received src)
  have data : requestData (s.received src) (s.executed src .lrnAll) .lrnAll = [byte s.learnCount] := by
    rw [requestData, received_learnCount, u8]
  dsimp only
  rw [h.lrnAll_dec, h.done parse_lrnAll rfl, data]
  generalize (learnAll (s.received src)).dec = d at touched ⊢
  have effect := (received_frame s src).withDec d
  rw [← touched] at effect
  exact answered_done (r := .lrnAll) _ effect

/-- Settles O53: LRN learns or is refused by whether its receiver can be learned, and LRN ALL is LRN of each receiver. -/
theorem learnTakesTheDecodedIdentity : Obligations.LearnTakesTheDecodedIdentity := by
  intro src tgt s h
  refine ⟨?_, ?_, ?_⟩
  · intro r i ident fits
    have learnable := learnable_of_ident ident fits
    obtain ⟨tim, tlost⟩ := h.lrn_clears ident learnable
    exact ⟨_, rfl, tim, tlost, h.lrn_learns ident learnable⟩
  · intro r barred
    exact ⟨_, rfl, h.lrn_refused (not_learnable barred)⟩
  · refine ⟨requestArrives s src tgt [8, 255], rfl, fun r => ?_, h.lrnAll_maint, ?_⟩
    · rw [h.lrnAll_decv]
      cases ident : (s.decv r).ident with
      | none => exact learned_of_none ident
      | some i => exact learned_of_some ident
    · simp only [h.lrnAll_decv, ← learnCount_eq]
      exact h.lrnAll_answered

end Sys2Proof.Machine
end

section
/-! SUPPORT. The bay line's transmitter and timers (O17, O21, O22): the start of an attempt by the arbiter's choice, a
frame that leaves the hand, and the expiries. -/

namespace Sys2Proof.Machine

/-! ## The view and the timers (R34, R44–R46) -/

/-- The event of an expiry whose timer has not run out changes nothing (log 14). -/
theorem ite_ranOut_of_ne {t : Option Nat} (h : t ≠ some 0) {α : Type} (a b : α) :
    (if ranOut t = true then a else b) = b := by
  rw [(ranOut_eq_false t).2 h]; rfl

/-- The event of an expiry whose timer has run out takes effect. -/
theorem ite_ranOut_of_eq {t : Option Nat} (h : t = some 0) {α : Type} (a b : α) :
    (if ranOut t = true then a else b) = a := if_pos ((ranOut_iff t).2 h)

/-- Settles O17: the view is set outright, and each expiry waits for its timer; only LINEFAULT's is handed on. -/
theorem lineViewAndLineTimers : Obligations.LineViewAndLineTimers := fun s =>
  ⟨rfl, rfl, fun spacing => ite_ranOut_of_eq spacing _ _, fun spacing => ite_ranOut_of_ne spacing _ _,
    fun routine => ite_ranOut_of_eq routine _ _, fun routine => ite_ranOut_of_ne routine _ _,
    fun linefault => ite_ranOut_of_ne linefault _ _,
    fun linefault => ⟨_, ite_ranOut_of_eq linefault _ _, conclude_frame s _⟩⟩

/-! ## The arbiter's choice (R40) -/

theorem choice_eq_triggered {s : State} (trigger : s.line.trigger = true) (spacing : s.line.spacing = none) :
    s.choice = some .triggered := by
  simp [State.choice, trigger, spacing]

/-- Without a trigger that may be chosen the choice falls on the responses, then on the routine announce. -/
theorem choice_of_no_trigger {s : State} (h : s.line.trigger = false ∨ s.line.spacing ≠ none) :
    s.choice = if s.line.responses = [] then if s.line.routineDue then some .routine else none
      else some .response := by
  have barred : (s.line.trigger && s.line.spacing.isNone) = false := by
    rcases h with trigger | spacing
    · rw [trigger]; rfl
    · simp [Option.isSome_iff_ne_none, spacing]
  unfold State.choice
  rw [barred]
  cases s.line.responses <;> rfl

theorem work_of_empty_hand {s : State} (hand : s.line.inHand = none) : s.work = s.choice := by
  simp [State.work, hand]

/-! ## The start of an attempt (R41, R42) -/

theorem attemptStart_before_deferral {s : State} {c : FrameClass} {elapsed : Nat} (work : s.work = some c)
    (early : elapsed < deferral s.own c) : exec (.attemptStart elapsed) s = .next s := by
  change execAttemptStart elapsed s = _
  simp [execAttemptStart, work, Nat.not_le.2 early]

theorem attemptStart_after_deferral {s : State} {c : FrameClass} {f : Frame} {elapsed : Nat}
    (settled : s.settled = true) (view : s.line.view = .idle) (free : s.line.sending = false) (work : s.work = some c)
    (frame : s.attemptFrame c = some f) (passed : deferral s.own c ≤ elapsed) :
    exec (.attemptStart elapsed) s = .next (startAttempt s c f) := by
  change execAttemptStart elapsed s = _
  simp [execAttemptStart, work, settled, view, free, passed, frame]

/-- The first attempt of an announce clears trigger pending and routine due, and stops the routine timer (R45, R46). -/
theorem startAttempt_announce {s : State} {c : FrameClass} (f : Frame) (hand : s.line.inHand = none)
    (announce : c ≠ .response) :
    startAttempt s c f = { s with line := { s.line with
      inHand := some ⟨c, f⟩, sending := true, view := .active, rx := .assembling
      collisions := 0, trigger := false, routineDue := false, routine := none } } := by
  simp [startAttempt, hand, announce]

/-- The first attempt of a response leaves the announces as they are. -/
theorem startAttempt_response {s : State} (f : Frame) (hand : s.line.inHand = none) :
    startAttempt s .response f = { s with line := { s.line with
      inHand := some ⟨.response, f⟩, sending := true, view := .active, rx := .assembling
      collisions := 0 } } := by
  simp [startAttempt, hand]

/-- Settles O21: the choice of the arbiter gives the work, and its deferral decides between no event and the attempt. -/
theorem attemptTakesTheChosenWork : Obligations.AttemptTakesTheChosenWork := by
  intro elapsed s settled view free hand
  have chosen : ∀ {c}, s.choice = some c → s.work = some c := (work_of_empty_hand hand).trans
  refine ⟨fun c work early => attemptStart_before_deferral work early, ?_, fun noTrigger => ⟨?_, ?_⟩⟩
  · intro trigger spacing passed
    rw [attemptStart_after_deferral settled view free (chosen (choice_eq_triggered trigger spacing)) rfl passed,
      startAttempt_announce _ hand (by decide)]
  · intro r rest responses passed
    have choice : s.choice = some .response := by rw [choice_of_no_trigger noTrigger, responses]; rfl
    have frame : s.attemptFrame .response = some (s.responseFrame r) := by simp [State.attemptFrame, responses]
    rw [attemptStart_after_deferral settled view free (chosen choice) frame passed, startAttempt_response _ hand]
  · intro responses due passed
    have choice : s.choice = some .routine := by rw [choice_of_no_trigger noTrigger, if_pos responses, if_pos due]
    rw [attemptStart_after_deferral settled view free (chosen choice) rfl passed,
      startAttempt_announce _ hand (by decide)]

/-! ## The frame leaves the hand (R42, R43) -/

/-- What the transmitter's registers are once the frame is out of hand, in one expression over its class (R45, R46,
R48). -/
theorem leaveHand_eq (l : BayLine) (c : FrameClass) :
    leaveHand l c = { l with
      inHand := none, sending := false, collisions := 0
      spacing := if c = .triggered then some 4 else l.spacing
      routine := if c = .response then l.routine else some 50
      responses := if c = .response then l.responses.drop 1 else l.responses } := by
  cases c <;> rfl

theorem restartsNow_of_free {s : State} (free : s.restartPending = false) (c : FrameClass) :
    s.restartsNow c = false := by
  simp [State.restartsNow, free]

theorem frameSent_eq {s : State} {h : InHand} (straps : BitVec 5) (sending : s.line.sending = true)
    (hand : s.line.inHand = some h) (free : s.restartPending = false) :
    exec (.frameSent straps) s = .next { s with line := leaveHand s.line h.cls } := by
  change execFrameSent straps s = _
  simp [execFrameSent, hand, sending, restartsNow_of_free free]

theorem collision_of_lt {s : State} {h : InHand} (straps : BitVec 5) (sending : s.line.sending = true)
    (hand : s.line.inHand = some h) (few : s.line.collisions < 7) :
    exec (.collision straps) s = .next { s with line := { s.line with
      sending := false, collisions := s.line.collisions + 1 } } := by
  change execCollision straps s = _
  simp [execCollision, hand, sending, few]

theorem collision_at_eighth {s : State} {h : InHand} (straps : BitVec 5) (sending : s.line.sending = true)
    (hand : s.line.inHand = some h) (eighth : s.line.collisions = 7) (free : s.restartPending = false) :
    exec (.collision straps) s = .next (dropFrame s h.cls) := by
  change execCollision straps s = _
  simp [execCollision, hand, sending, eighth, restartsNow_of_free free]

theorem EventFrame.inHand_none {s t : State} (f : EventFrame s t) (h : s.line.inHand = none) :
    t.line.inHand = none := by
  have frames := f.inHand
  rw [h] at frames
  exact Option.map_eq_none_iff.1 frames

/-- A drop is handed on with LINEFAULT active (R44). -/
theorem dropFrame_frame (s : State) (c : FrameClass) :
    EventFrame { s with line := { leaveHand s.line c with linefault := some tenSeconds } } (dropFrame s c) :=
  conclude_frame s _

/-- Settles O22: a frame leaves the hand in one way, sent or dropped, and a drop is handed on with LINEFAULT. -/
theorem frameInHandIsSentOrDropped : Obligations.FrameInHandIsSentOrDropped := by
  intro straps h s sending hand
  have sent := frameSent_eq (s := s) straps sending hand
  have dropped := dropFrame_frame s h.cls
  rw [leaveHand_eq] at sent dropped
  exact ⟨sent, collision_of_lt straps sending hand,
    fun eighth free => ⟨_, collision_at_eighth straps sending hand eighth free, dropped.inHand_none rfl, dropped⟩⟩

end Sys2Proof.Machine
end

section
/-! SUPPORT. The arrival of a frame (O19, O20): what a refresh and the intake of an announce do to the peer view, that
they leave the rest to the frame of the event, and which of them a frame comes to. -/

namespace Sys2Proof.Machine

/-! ## Events of the peer view -/

/-- A peer view beside what stays within the frame of an event. -/
theorem EventFrame.withPeers {s t : State} (f : EventFrame s t) (v : PeerView) :
    EventFrame { s with peers := v } { t with peers := v } := { f with peers := rfl }

/-- `t` comes from `s` by a change of the peer view alone, within the frame of an event. -/
def PeersMoved (s t : State) : Prop := EventFrame { s with peers := t.peers } t

theorem PeersMoved.trans {s t u : State} (h : PeersMoved s t) (g : PeersMoved t u) : PeersMoved s u :=
  EventFrame.trans (h.withPeers u.peers) g

theorem peersMoved_of_eq {s t : State} (h : t = { s with peers := t.peers }) : PeersMoved s t := by
  unfold PeersMoved; rw [← h]; exact .refl t

theorem setPeer_moved (s : State) (n : Station) (r : PeerRec) : PeersMoved s (s.setPeer n r) := peersMoved_of_eq rfl

/-! ## The refresh (R53, R60) -/

@[simp] theorem refresh_peers (s : State) (n : Station) : (refresh s n).peers = s.heardFrom n := triggerIf_peers _ _

@[simp] theorem refresh_straps (s : State) (n : Station) : (refresh s n).straps = s.straps := triggerIf_straps _ _

theorem refresh_frame (s : State) (n : Station) : EventFrame { s with peers := s.heardFrom n } (refresh s n) :=
  triggerIf_frame s.peers.isolated _

theorem refresh_moved (s : State) (n : Station) : PeersMoved s (refresh s n) := by
  unfold PeersMoved; rw [refresh_peers]; exact refresh_frame s n

theorem refresh_peer (s : State) (n m : Station) :
    (refresh s n).peer m = if n = m then { s.peer n with present := true, age := some 0 } else s.peer m := by
  rw [State.peer, refresh_peers]; exact tget_tset _ _ _ _

/-! ## The unheard state (R61, R62) -/

theorem unheardEnd_peers (s : State) (a : Announce) : (unheardEnd s a).peers =
    { s.peers with unheard := s.peers.unheard && !a.heard.getMsbD s.own.val } := by
  unfold unheardEnd
  split
  · next h => obtain ⟨unheard, heard⟩ := h; simp [heard]
  · next h =>
    have kept : (s.peers.unheard && !a.heard.getMsbD s.own.val) = s.peers.unheard := by
      cases unheard : s.peers.unheard <;> simp_all
    rw [kept]

theorem unheardEnd_moved (s : State) (a : Announce) : PeersMoved s (unheardEnd s a) := by
  unfold unheardEnd
  split
  · unfold PeersMoved; rw [requestTrigger_peers]; exact requestTrigger_frame _
  · exact peersMoved_of_eq rfl

/-- The unheard test moves its own timer alone. -/
theorem unheardEval_peers (s : State) : (unheardEval s).peers =
    { s.peers with unheardTimer := (unheardEval s).peers.unheardTimer } := by
  unfold unheardEval; split <;> rfl

theorem unheardEval_moved (s : State) : PeersMoved s (unheardEval s) := by
  unfold unheardEval; split <;> exact peersMoved_of_eq rfl

/-! ## The intake of an announce (R53, R54) -/

theorem takeAnnounce_moved (s : State) (n : Station) (a : Announce) : PeersMoved s (takeAnnounce s n a) :=
  (refresh_moved s n).trans ((setPeer_moved _ n _).trans ((unheardEnd_moved _ a).trans (unheardEval_moved _)))

theorem takeAnnounce_peers (s : State) (n : Station) (a : Announce) : (takeAnnounce s n a).peers =
    { s.peers with
      recs := tset (s.heardFrom n).recs n { present := true, age := some 0, content := some a, quarantine := none }
      isolated := false
      silence := some 300
      unheard := s.peers.unheard && !a.heard.getMsbD s.own.val
      unheardTimer := (takeAnnounce s n a).peers.unheardTimer } := by
  unfold takeAnnounce
  rw [unheardEval_peers, unheardEnd_peers]
  simp [State.own, State.setPeer, refresh_peer, State.heardFrom]

/-! ## Which of them a frame comes to (R35, R37–R39) -/

theorem hearing_of {s : State} (settled : s.settled = true) (rx : s.line.rx ≠ .ignoring) : s.hearing = true := by
  simp [State.hearing, settled, rx]

/-- What R37 leaves of a frame that is handed on to the Request Handler or to the Peer View Table. -/
theorem Frame.accepted_addresses {f : Frame} {own : Station} (h : f.accepted own = true) :
    targetOk f.target = true ∧ f.source.toNat ≠ own.val ∧ (f.kind = 3 → f.payload ≠ []) := by
  simp only [Frame.accepted, Bool.and_eq_true, decide_eq_true_eq] at h
  obtain ⟨⟨⟨⟨-, target⟩, request⟩, -⟩, other⟩ := h
  refine ⟨target, other, fun kind empty => ?_⟩
  simp [kind, empty] at request

theorem frameArrival_accepted {s : State} {bits : List Bool} {f : Frame} (hearing : s.hearing = true)
    (carried : frameOf bits = some f) (accepted : f.accepted s.own = true) :
    exec (.frameArrival bits) s = .next (handFrame s (lineQuiet s) f) := by
  change execFrameArrival bits s = _
  simp [execFrameArrival, hearing, carried, accepted]

theorem frameArrival_without_frame {s : State} {bits : List Bool} (hearing : s.hearing = true)
    (carried : frameOf bits = none) : exec (.frameArrival bits) s = .next (lineQuiet s) := by
  change execFrameArrival bits s = _
  simp [execFrameArrival, hearing, carried]

theorem frameArrival_refused {s : State} {bits : List Bool} {f : Frame} (hearing : s.hearing = true)
    (carried : frameOf bits = some f) (refused : f.accepted s.own = false) :
    exec (.frameArrival bits) s = .next (lineQuiet s) := by
  change execFrameArrival bits s = _
  simp [execFrameArrival, hearing, carried, refused]

/-- The source of a frame as the station it names. -/
theorem station_of_source {f : Frame} {n : Station} (source : n.val = f.source.toNat) :
    (⟨f.source.toNat, f.source.isLt⟩ : Station) = n := Fin.ext source.symm

theorem handFrame_announce {s0 s : State} {f : Frame} {n : Station} {a : Announce} (source : n.val = f.source.toNat)
    (kind : f.kind = 1) (content : announceOf f.source f.payload = some a) :
    handFrame s0 s f = conclude s0 (takeAnnounce s n a) := by
  simp [handFrame, kind, content, station_of_source source]

theorem handFrame_malformed {s0 s : State} {f : Frame} (kind : f.kind = 1)
    (content : announceOf f.source f.payload = none) : handFrame s0 s f = s := by
  simp [handFrame, kind, content]

theorem handFrame_request {s0 s : State} {f : Frame} {n : Station} (source : n.val = f.source.toNat)
    (kind : f.kind = 3) : handFrame s0 s f = handRequest s0 s n f.target f.payload := by
  simp [handFrame, kind, station_of_source source]

theorem handFrame_response {s0 s : State} {f : Frame} {n : Station} (source : n.val = f.source.toNat)
    (kind : f.kind = 2) : handFrame s0 s f = conclude s0 (refresh s n) := by
  simp [handFrame, kind, station_of_source source]

/-- A request to another station is for its sender's refresh alone (R39). -/
theorem handRequest_elsewhere {s0 s : State} {n : Station} {tgt : BitVec 6} (payload : List Byte) (notAll : tgt ≠ 63)
    (notOwn : tgt.toNat ≠ s.own.val) : handRequest s0 s n tgt payload = conclude s0 (refresh s n) := by
  have notAll' : tgt.toNat ≠ 63 := fun h => notAll (BitVec.eq_of_toNat_eq h)
  unfold handRequest
  dsimp only
  rw [if_neg notAll', if_neg notOwn]

/-- A frame that is handed on is an arrival of a request row (log 17). -/
theorem requestArrives_of_accepted {s : State} {f : Frame} {n : Station} (hearing : s.hearing = true)
    (accepted : f.accepted s.own = true) (source : n.val = f.source.toNat) (kind : f.kind = 3) :
    requestArrives s n f.target f.payload = handRequest s (lineQuiet s) n f.target f.payload := by
  obtain ⟨target, other, nonempty⟩ := f.accepted_addresses accepted
  have notOwn : n ≠ s.own := fun h => other (source ▸ congrArg Fin.val h)
  unfold requestArrives
  rw [if_pos (by simp [hearing, target, notOwn, nonempty kind])]

/-! ## The obligations -/

/-- Settles O19: the arrival comes to the intake of the content, and what follows is within the frame of the event. -/
theorem announceIsTakenIntoThePeerView : Obligations.AnnounceIsTakenIntoThePeerView := by
  intro bits f a n s settled rx carried accepted kind content source
  set u := takeAnnounce (lineQuiet s) n a
  have moved : PeersMoved (lineQuiet s) u := takeAnnounce_moved (lineQuiet s) n a
  have ended : EventFrame u (conclude s u) := conclude_frame s u
  have view := ended.peers.trans (takeAnnounce_peers (lineQuiet s) n a)
  refine ⟨conclude s u, ?_, ?_, fun m hm => ?_, ?_, ?_, ?_, ?_⟩
  · rw [frameArrival_accepted (hearing_of settled rx) carried accepted, handFrame_announce source kind content]
  · rw [State.peer, view]; exact tget_tset_same _ _ _
  · rw [State.peer, view]
    exact (tget_tset_ne _ hm.symm _).trans (tget_tset_ne _ hm.symm _)
  · rw [view]
  · rw [view]
  · rw [view]; simp [lineQuiet, State.own]
  · rw [ended.peers]; exact EventFrame.trans moved ended

/-- A refresh at the arrival of a frame and the end of its event. -/
theorem refresh_arrival_frame (s : State) (n : Station) : EventFrame
    { s with peers := s.heardFrom n, line := s.lineAfter s.line.responses } (conclude s (refresh (lineQuiet s) n)) :=
  (refresh_frame (lineQuiet s) n).trans (conclude_frame s _)

/-- Settles O20: the row's command, the refresh, and the three ways to be discarded. -/
theorem otherFramesOnlyRefresh : Obligations.OtherFramesOnlyRefresh := by
  intro bits s settled rx
  have hearing := hearing_of settled rx
  refine ⟨fun f n carried accepted source => ⟨fun kind c row => ?_, fun refreshing => ?_⟩, fun discarded => ?_⟩
  · rw [frameArrival_accepted hearing carried accepted, handFrame_request source kind, exec_of_requestOf s row,
      requestArrives_of_accepted hearing accepted source kind]
  · have frame := refresh_arrival_frame s n
    refine ⟨_, ?_, frame.peers, frame⟩
    rw [frameArrival_accepted hearing carried accepted]
    rcases refreshing with kind | ⟨kind, notAll, notOwn⟩
    · rw [handFrame_response source kind]
    · rw [handFrame_request source kind, handRequest_elsewhere (s := lineQuiet s) _ notAll notOwn]
  · change _ = Host.Outcome.next (lineQuiet s)
    rcases discarded with nothing | ⟨f, carried, refused | ⟨kind, malformed⟩⟩
    · exact frameArrival_without_frame hearing nothing
    · exact frameArrival_refused hearing carried refused
    · cases accepted : f.accepted s.own with
      | false => exact frameArrival_refused hearing carried accepted
      | true => rw [frameArrival_accepted hearing carried accepted, handFrame_malformed kind malformed]

end Sys2Proof.Machine
end

section
/-! SUPPORT. The coding of frames and announces (O18): bits and bytes are read back, then the delimiter, the fields of a
frame and the items of an announce. -/

namespace Sys2Proof.Machine

/-! ## Bits -/

@[simp] theorem length_bitsOf {w : Nat} (x : BitVec w) : (bitsOf x).length = w := by simp [bitsOf]

theorem natOfBits_concat (bs : List Bool) (b : Bool) : natOfBits (bs ++ [b]) = 2 * natOfBits bs + b.toNat := by
  simp [natOfBits]

/-- The first k bits spell the number without its lowest places. -/
theorem natOfBits_leading {w : Nat} (x : BitVec w) :
    ∀ k, k ≤ w → natOfBits ((List.range k).map x.getMsbD) = x.toNat / 2 ^ (w - k)
  | 0, _ => by simp [natOfBits, Nat.div_eq_of_lt x.isLt]
  | k + 1, hk => by
    have bit : x.getMsbD k = x.toNat.testBit (w - (k + 1)) := by
      simp [BitVec.getMsbD, BitVec.getLsbD, Nat.sub_add_eq, Nat.sub_right_comm, Nat.lt_of_succ_le hk]
    have halved : x.toNat / 2 ^ (w - k) = x.toNat / 2 ^ (w - (k + 1)) / 2 := by
      rw [Nat.div_div_eq_div_mul, ← pow_succ]; congr 2; omega
    rw [List.range_succ, List.map_append, List.map_singleton, natOfBits_concat, natOfBits_leading x k (by omega), bit,
      Nat.toNat_testBit, halved]
    exact Nat.div_add_mod _ 2

@[simp] theorem natOfBits_bitsOf {w : Nat} (x : BitVec w) : natOfBits (bitsOf x) = x.toNat := by
  rw [bitsOf, natOfBits_leading x w le_rfl, Nat.sub_self, pow_zero, Nat.div_one]

@[simp] theorem ofBits_bitsOf {w : Nat} (x : BitVec w) : ofBits w (bitsOf x) = x := by
  rw [ofBits, natOfBits_bitsOf, BitVec.ofNat_toNat, BitVec.setWidth_eq]

theorem natOfBits_lt (bs : List Bool) : natOfBits bs < 2 ^ bs.length := by
  induction bs using List.reverseRecOn with
  | nil => simp [natOfBits]
  | append_singleton bs b ih =>
    have bit := b.toNat_lt
    rw [natOfBits_concat, List.length_append, List.length_singleton, pow_succ]
    omega

theorem bit_eq_of_toNat_eq : ∀ {a b : Bool}, a.toNat = b.toNat → a = b := by decide

/-- Runs of bits of one length that spell one number are the same run. -/
theorem eq_of_natOfBits_eq {as bs : List Bool} (length : as.length = bs.length)
    (number : natOfBits as = natOfBits bs) : as = bs := by
  induction as using List.reverseRecOn generalizing bs with
  | nil => exact (List.length_eq_zero_iff.1 length.symm).symm
  | append_singleton as a ih =>
    cases bs using List.reverseRecOn with
    | nil => simp at length
    | append_singleton bs b =>
      rw [natOfBits_concat, natOfBits_concat] at number
      have la := a.toNat_lt
      have lb := b.toNat_lt
      have front : as = bs := ih (by simpa using length) (by omega)
      have last : a.toNat = b.toNat := by rw [front] at number; omega
      rw [front, bit_eq_of_toNat_eq last]

theorem bitsOf_ofBits {w : Nat} {bs : List Bool} (length : bs.length = w) : bitsOf (ofBits w bs) = bs := by
  refine eq_of_natOfBits_eq (by simp [length]) ?_
  rw [natOfBits_bitsOf, ofBits, BitVec.toNat_ofNat]
  exact Nat.mod_eq_of_lt (length ▸ natOfBits_lt bs)

theorem bitsOf_append {v w : Nat} (x : BitVec v) (y : BitVec w) : bitsOf (x ++ y) = bitsOf x ++ bitsOf y := by
  refine List.ext_getElem (by simp) fun i _ _ => ?_
  simp only [bitsOf, List.getElem_map, List.getElem_range, List.getElem_append, List.length_map, List.length_range,
    BitVec.getMsbD_append]
  split <;> simp_all

/-! ## A field at the head of a run of bits -/

theorem take_bitsOf {w : Nat} (x : BitVec w) (r : List Bool) : (bitsOf x ++ r).take w = bitsOf x :=
  List.take_left' (length_bitsOf x)

theorem drop_bitsOf {w : Nat} (x : BitVec w) (r : List Bool) : (bitsOf x ++ r).drop w = r :=
  List.drop_left' (length_bitsOf x)

/-- What stands after a field that begins at place i. -/
theorem drop_past {w i : Nat} {bits r : List Bool} {x : BitVec w} (h : bits.drop i = bitsOf x ++ r) :
    bits.drop (i + w) = r := by
  rw [← List.drop_drop, h, drop_bitsOf]

/-- A field that begins at place i. -/
theorem field_at {w i : Nat} {bits r : List Bool} {x : BitVec w} (h : bits.drop i = bitsOf x ++ r) :
    ofBits w ((bits.drop i).take w) = x := by
  rw [h, take_bitsOf, ofBits_bitsOf]

/-! ## Bytes -/

@[simp] theorem bitsOfBytes_nil : bitsOfBytes [] = [] := rfl

@[simp] theorem bitsOfBytes_cons (b : Byte) (bs : List Byte) : bitsOfBytes (b :: bs) = bitsOf b ++ bitsOfBytes bs := rfl

@[simp] theorem length_bitsOfBytes (bs : List Byte) : (bitsOfBytes bs).length = 8 * bs.length := by
  induction bs with
  | nil => rfl
  | cons b bs ih => rw [bitsOfBytes_cons, List.length_append, length_bitsOf, ih, List.length_cons]; omega

theorem bytesOfBits_bitsOfBytes (bs : List Byte) (r : List Bool) :
    bytesOfBits bs.length (bitsOfBytes bs ++ r) = bs := by
  induction bs with
  | nil => rfl
  | cons b bs ih =>
    rw [List.length_cons, bitsOfBytes_cons, List.append_assoc, bytesOfBits, take_bitsOf, drop_bitsOf, ofBits_bitsOf, ih]

theorem bitsOfBytes_bytesOfBits (n : Nat) {bs : List Bool} (length : bs.length = 8 * n) :
    bitsOfBytes (bytesOfBits n bs) = bs := by
  induction n generalizing bs with
  | zero => exact (List.length_eq_zero_iff.1 length).symm
  | succ n ih =>
    rw [bytesOfBits, bitsOfBytes_cons, bitsOf_ofBits (by rw [List.length_take]; omega),
      ih (by rw [List.length_drop]; omega), List.take_append_drop]

/-! ## The delimiter (R35) -/

/-- In the preamble and the delimiter the delimiter stands at no place before its own. -/
theorem delimiter_not_before : ∀ i ∈ List.range 8, ((preamble ++ delimiter).drop (8 + i)).take 8 ≠ delimiter := by
  decide

/-- A window of eight bits that lies inside the preamble and the delimiter does not see what follows them. -/
theorem window_eq (rest : List Bool) {i : Nat} (h : i ≤ 16) :
    ((preamble ++ delimiter ++ rest).drop i).take 8 = ((preamble ++ delimiter).drop i).take 8 := by
  have length : (preamble ++ delimiter).length = 24 := rfl
  rw [List.drop_append_of_le_length (by omega),
    List.take_append_of_le_length (by rw [List.length_drop]; omega)]

theorem findDelimiter_of_sent (rest : List Bool) : findDelimiter (preamble ++ delimiter ++ rest) = some rest := by
  have places : List.range 17 = List.range 8 ++ 8 :: [9, 10, 11, 12, 13, 14, 15, 16] := rfl
  have before : (List.range 8).findSome? (fun i => afterDelimiter (preamble ++ delimiter ++ rest) (8 + i)) = none := by
    refine List.findSome?_eq_none_iff.2 fun i hi => ?_
    have := List.mem_range.1 hi
    rw [afterDelimiter, window_eq rest (by omega), if_neg (delimiter_not_before i hi)]
  have here : afterDelimiter (preamble ++ delimiter ++ rest) (8 + 8) = some rest := by
    rw [afterDelimiter, window_eq rest (by omega), if_pos (by decide)]; rfl
  rw [findDelimiter, places, List.findSome?_append, before, List.findSome?_cons, here]
  rfl

/-! ## The fields of a frame (3.2) -/

/-- What follows the delimiter, field by field. -/
theorem bitsOfBytes_body (f : Frame) (r : List Bool) : bitsOfBytes f.body ++ r =
    bitsOf f.kind ++ (bitsOf f.source ++ (bitsOf f.pad ++ (bitsOf f.target ++
      (bitsOf (byte f.payload.length) ++ (bitsOfBytes f.payload ++ r))))) := by
  have first : bitsOf (w := 8) (f.kind ++ f.source) = bitsOf f.kind ++ bitsOf f.source := bitsOf_append _ _
  have second : bitsOf (w := 8) (f.pad ++ f.target) = bitsOf f.pad ++ bitsOf f.target := bitsOf_append _ _
  rw [Frame.body, bitsOfBytes_cons, bitsOfBytes_cons, bitsOfBytes_cons, first, second]
  simp only [List.append_assoc]

theorem frameOf_bits {f : Frame} (short : f.payload.length ≤ 64) : frameOf f.bits = some f := by
  set rest := bitsOfBytes f.body ++ bitsOf (crcOf f.body) with hrest
  have found : findDelimiter f.bits = some rest := by
    rw [Frame.bits, List.append_assoc _ (bitsOfBytes _)]; exact findDelimiter_of_sent rest
  have length : rest.length = 40 + 8 * f.payload.length := by
    rw [hrest, List.length_append, length_bitsOfBytes, length_bitsOf]
    simp only [Frame.body, List.length_cons]; omega
  have at0 := (List.drop_zero (l := rest)).trans (bitsOfBytes_body f _)
  have at3 := drop_past at0
  have at8 := drop_past at3
  have at10 := drop_past at8
  have at16 := drop_past at10
  have at24 := drop_past at16
  have payload : bytesOfBits f.payload.length (rest.drop 24) = f.payload := by
    rw [at24]; exact bytesOfBits_bitsOfBytes _ _
  have crc : ofBits 16 (rest.drop (24 + 8 * f.payload.length)) = crcOf f.body := by
    rw [← List.drop_drop, at24, List.drop_left' (length_bitsOfBytes _), ofBits_bitsOf]
  have len : natOfBits ((rest.drop 16).take 8) = f.payload.length := by
    rw [at16, take_bitsOf, natOfBits_bitsOf, toNat_byte (by omega)]
  have kind : ofBits 3 (rest.take 3) = f.kind := field_at at0
  have source : ofBits 5 ((rest.drop 3).take 5) = f.source := field_at at3
  have pad : ofBits 2 ((rest.drop 8).take 2) = f.pad := field_at at8
  have target : ofBits 6 ((rest.drop 10).take 6) = f.target := field_at at10
  rw [frameOf, found]
  simp only [len, kind, source, pad, target, payload]
  exact if_pos ⟨short, length, crc⟩

/-! ## The items of an announce (3.2, R38, R47) -/

/-- The flags byte gives its four flags and its zeros back. -/
theorem flagByte_flags : ∀ a b c d : Bool, let fl := flagByte a b c d false false false false
    fl.extractLsb' 0 4 = 0 ∧ fl.getMsbD 0 = a ∧ fl.getMsbD 1 = b ∧ fl.getMsbD 2 = c ∧ fl.getMsbD 3 = d := by
  decide

theorem ofBits_heardBytes (h : BitVec 32) : ofBits 32 (bitsOfBytes (heardBytes h)) = h := by
  rw [heardBytes, bitsOfBytes_bytesOfBits 4 (length_bitsOf h), ofBits_bitsOf]

theorem highestOfCode_severityCode (x : Option Severity) : highestOfCode (byte (severityCode x)) = some x := by
  rcases x with _ | _ | _ | _ | _ <;> rfl

theorem TimingState.ofCode_code (t : TimingState) : TimingState.ofCode (byte t.code) = some t := by
  cases t <;> rfl

theorem Class.ofCode_code {c : Class} (h : c ≠ .undecided) : Class.ofCode (BitVec.ofNat 3 c.code) = some c := by
  cases c with
  | undecided => exact absurd rfl h
  | exercise | wtr | manual | sigdeg | sigfail | forced | lockout => rfl

/-- The second byte of a claim gives its spare, class code and mark back, with the two low bits clear. -/
theorem claimByte_fields : ∀ (sp : BitVec 2) (code : BitVec 3) (settled : Bool),
    let b : Byte := sp ++ code ++ BitVec.ofBool settled ++ 0#2
    b.extractLsb' 6 2 = sp ∧ b.extractLsb' 3 3 = code ∧ b.getLsbD 2 = settled ∧ b.extractLsb' 0 2 = 0 := by
  decide

/-- What R38 asks of a claim, for its two bytes to be judged well formed. -/
def AnnClaim.WellFormed (c : AnnClaim) : Prop :=
  c.cls ≠ .undecided ∧ ¬(16 ≤ c.port.toNat ∧ c.port.toNat ≤ 30) ∧ (c.cls = .lockout ↔ c.port = 31)

/-- The second byte of a claim as an announce carries it. -/
def AnnClaim.second (c : AnnClaim) : Byte :=
  BitVec.ofNat 2 c.spare.val ++ BitVec.ofNat 3 c.cls.code ++ BitVec.ofBool c.settled ++ 0#2

theorem AnnClaim.bytes_eq (c : AnnClaim) : c.bytes = [c.port, c.second] := rfl

theorem claimOf_bytes {c : AnnClaim} (h : c.WellFormed) : claimOf c.port c.second = some c := by
  obtain ⟨decided, port, lockout⟩ := h
  obtain ⟨spare, code, settled, low⟩ :=
    claimByte_fields (BitVec.ofNat 2 c.spare.val) (BitVec.ofNat 3 c.cls.code) c.settled
  have lockout' : c.cls = .lockout ↔ c.port.toNat = 31 := lockout.trans BitVec.toNat_inj.symm
  have number : (BitVec.ofNat 2 c.spare.val).toNat = c.spare.val := by simp
  unfold claimOf AnnClaim.second
  rw [code, Class.ofCode_code decided]
  dsimp only
  rw [if_pos ⟨low, port, lockout'⟩]
  simp only [spare, settled, number]

theorem claimsOf_bytes {cs : List AnnClaim} (h : ∀ c ∈ cs, c.WellFormed) (rest : List Byte) :
    claimsOf cs.length (cs.flatMap AnnClaim.bytes ++ rest) = some (cs, rest) := by
  induction cs with
  | nil => rfl
  | cons c cs ih =>
    obtain ⟨first, others⟩ := List.forall_mem_cons.1 h
    rw [List.length_cons, List.flatMap_cons, AnnClaim.bytes_eq, List.append_assoc, List.cons_append, List.cons_append,
      List.nil_append, claimsOf, claimOf_bytes first, ih others]

/-- The payload of an announce item by item, its heard set in four bytes. -/
theorem Announce.bytes_eq (a : Announce) : ∃ h1 h2 h3 h4, heardBytes a.heard = [h1, h2, h3, h4] ∧
    a.bytes = flagByte a.isolated a.unheard a.cfgdef a.fourth false false false false :: h1 :: h2 :: h3 :: h4 ::
      a.critical :: a.major :: a.minor :: a.warning :: byte (severityCode a.highest) :: byte a.claims.length ::
      (a.claims.flatMap AnnClaim.bytes ++ byte a.timing.code :: byte a.ql :: byte a.trace.length :: a.trace) :=
  ⟨_, _, _, _, rfl, by simp [Announce.bytes, heardBytes, bytesOfBits]⟩

theorem announceOf_bytes {src : BitVec 5} {a : Announce} (few : a.claims.length ≤ 4)
    (spares : sameSpare a.claims = false) (claims : ∀ c ∈ a.claims, c.WellFormed) (ql : 1 ≤ a.ql ∧ a.ql ≤ 7)
    (short : a.trace.length ≤ 8) (source : a.trace.head? = some (src.setWidth 8)) :
    announceOf src a.bytes = some a := by
  obtain ⟨h1, h2, h3, h4, heard, bytes⟩ := a.bytes_eq
  obtain ⟨zeros, isolated, unheard, cfgdef, fourth⟩ := flagByte_flags a.isolated a.unheard a.cfgdef a.fourth
  have heard' : ofBits 32 (bitsOfBytes [h1, h2, h3, h4]) = a.heard := heard ▸ ofBits_heardBytes a.heard
  have count : (byte a.claims.length).toNat = a.claims.length := toNat_byte (by omega)
  have level : (byte a.ql).toNat = a.ql := toNat_byte (by omega)
  have entries : (byte a.trace.length).toNat = a.trace.length := toNat_byte (by omega)
  have nonempty : 1 ≤ a.trace.length := by
    cases h : a.trace with
    | nil => rw [h] at source; cases source
    | cons => simp
  rw [bytes, announceOf, count, if_pos ⟨zeros, few⟩, highestOfCode_severityCode, claimsOf_bytes claims]
  dsimp only
  rw [TimingState.ofCode_code]
  dsimp only
  rw [level, entries, if_pos ⟨ql.1, ql.2, nonempty, short, rfl, spares, source⟩,
    isolated, unheard, cfgdef, fourth, heard']

/-- Settles O18: the frame's fields and the announce's items, each read back where it was sent. -/
theorem framesAndAnnouncesAreReadBack : Obligations.FramesAndAnnouncesAreReadBack :=
  ⟨fun _ short => frameOf_bits short, fun _ _ few spares claims qlLow qlHigh short source =>
    announceOf_bytes few spares claims ⟨qlLow, qlHigh⟩ short source⟩

end Sys2Proof.Machine
end

section
/-! SUPPORT. The settling of an image (O7, O8): the frame of a settling, the QUERY of every used port, and the first
moment of readback. -/

namespace Sys2Proof.Machine

/-! ## Asking for a movement stays within the frame -/

theorem endStep_frame (s : State) (r : ExResult) : EventFrame s (endStep s r) := by
  have written : EventFrame s { s with exr := s.exr.finish r s.freq.seconds } := { EventFrame.refl s with }
  exact written.trans (triggerIf_frame _ _)

theorem stepReplaced_frame (s : State) : EventFrame s (stepReplaced s) := by
  unfold stepReplaced; split
  · exact endStep_frame s _
  · exact .refl s

theorem setDport_frame (s : State) (p : Port) (d : PortDrv) : EventFrame s (s.setDport p d) :=
  { EventFrame.refl s with }

theorem putEntry_frame (s : State) (p : Port) (e : Option Entry) : EventFrame s (putEntry s p e) := by
  unfold putEntry; split <;> exact setDport_frame s p _

theorem ask_frame (s : State) (p : Port) (c : Cmd) (m : Maker) (b : Bool) : EventFrame s (ask s p c m b) := by
  unfold ask
  split
  · exact putEntry_frame s p _
  · next old _ =>
    have placed := putEntry_frame s p (some ⟨c, m, old.overBridge⟩)
    have retried : EventFrame s (if old.isDriverUnbridge && decide (m ≠ .driver)
        then restartRetry (putEntry s p (some ⟨c, m, old.overBridge⟩)) p
        else putEntry s p (some ⟨c, m, old.overBridge⟩)) := by
      split
      · exact placed.trans (setDport_frame _ p _)
      · exact placed
    dsimp only
    split
    · exact retried.trans (stepReplaced_frame _)
    · exact retried

/-- With nothing standing for the port and no actuation of it in flight, the entry joins the queue (R109). -/
theorem ask_of_idle {s : State} {p : Port} (c : Cmd) (m : Maker) (b : Bool) (queue : (s.dport p).queue = none)
    (waiting : (s.dport p).waiting = none) (free : s.drv.inFlight = none) :
    ask s p c m b = putQueue s p (some ⟨c, m, b⟩) := by
  simp [ask, State.standingEntry, putEntry, State.portInFlight, queue, waiting, free]

/-! ## The work begun at a settling (R203) -/

/-- The state of a settling before any QUERY is placed (R200–R203). -/
def State.workBegun (s : State) (g : Config) (cfgdef : Bool) (temp : BitVec 9) : State :=
  { s with
    config := g
    cfgdef := cfgdef
    phase := .readback
    loadTimer := none
    scan := { s.scan with siteSent := some (g.site, s.own) }
    line := { s.line with rx := if s.line.view = .active then .ignoring else .quiet }
    peers := { s.peers with silence := some 300 }
    freq := { s.freq with
      temp := temp
      tEntry := if s.freq.state = .holdover then some temp else s.freq.tEntry }
    tim := { s.tim with cands := tab fun c => CandRec.start (candUnused g c) } }

/-- The readback asks a used port for its positions (R118). -/
def queryUsed (s : State) (p : Port) : State := if s.used p then ask s p .query .driver else s

theorem beginWork_eq (s : State) (g : Config) (cfgdef : Bool) (temp : BitVec 9) :
    beginWork s g cfgdef temp = (idx 16).foldl queryUsed (s.workBegun g cfgdef temp) := rfl

theorem queryUsed_frame (s : State) (p : Port) : EventFrame s (queryUsed s p) := by
  unfold queryUsed; split
  · exact ask_frame s p _ _ _
  · exact .refl s

theorem beginWork_frame (s : State) (g : Config) (cfgdef : Bool) (temp : BitVec 9) :
    EventFrame (s.workBegun g cfgdef temp) (beginWork s g cfgdef temp) := by
  rw [beginWork_eq]; exact foldl_frame queryUsed queryUsed_frame _ _

theorem settle_frame (s : State) (i : RawImage) (failed : Bool) (temp : BitVec 9) :
    EventFrame (s.workBegun (settleImage i s.own) (failed || imageReplaced i s.own) temp) (settle s i failed temp) :=
  (beginWork_frame s _ _ temp).trans (conclude_frame s _)

/-! ## The QUERY of every used port (R118) -/

/-- A port of a Driver at reset once its QUERY is queued. -/
def PortDrv.queried : PortDrv := { PortDrv.reset with queue := some ⟨.query, .driver, false⟩ }

/-- Readback has begun on a Driver at reset: the QUERY of every used port is queued, and no more. -/
structure Queried (s : State) : Prop where
  readback : s.phase = .readback
  free : s.drv.inFlight = none
  port : ∀ p, s.dport p = if s.used p then PortDrv.queried else PortDrv.reset

theorem queryUsed_used (s : State) (p q : Port) : (queryUsed s p).used q = s.used q := by
  rw [State.used, (queryUsed_frame s p).config]; rfl

theorem queryUsed_of_reset {s : State} {p : Port} (free : s.drv.inFlight = none) (port : s.dport p = PortDrv.reset) :
    queryUsed s p = if s.used p then s.setDport p PortDrv.queried else s := by
  unfold queryUsed
  rw [ask_of_idle _ _ _ (by rw [port]; rfl) (by rw [port]; rfl) free, putQueue, port]
  rfl

/-- Asking the ports of a list in turn queues a QUERY for each used one and leaves the other ports as they are. -/
theorem foldl_queryUsed {l : List Port} {s : State} (nodup : l.Nodup) (free : s.drv.inFlight = none)
    (reset : ∀ p ∈ l, s.dport p = PortDrv.reset) :
    (l.foldl queryUsed s).phase = s.phase ∧ (l.foldl queryUsed s).drv.inFlight = none ∧
      ∀ p, (l.foldl queryUsed s).dport p = if p ∈ l ∧ s.used p = true then PortDrv.queried else s.dport p := by
  induction l generalizing s with
  | nil => exact ⟨rfl, free, fun p => by simp⟩
  | cons q l ih =>
    obtain ⟨fresh, nodup⟩ := List.nodup_cons.1 nodup
    have asked := queryUsed_of_reset free (reset q List.mem_cons_self)
    have phase : (queryUsed s q).phase = s.phase := by rw [asked]; split <;> rfl
    have free' : (queryUsed s q).drv.inFlight = none := by rw [asked]; split <;> exact free
    have port : ∀ p, (queryUsed s q).dport p = if q = p ∧ s.used p = true then PortDrv.queried else s.dport p := by
      intro p
      rw [asked]
      by_cases h : q = p
      · subst h; split <;> simp_all
      · split <;> simp [setDport_dport, h]
    have other : ∀ p ∈ l, q ≠ p := fun p hp h => fresh (h ▸ hp)
    obtain ⟨phase', free'', ports⟩ := ih nodup free' fun p hp => by
      rw [port, if_neg (fun h => other p hp h.1)]; exact reset p (List.mem_cons_of_mem q hp)
    refine ⟨phase'.trans phase, free'', fun p => ?_⟩
    rw [List.foldl_cons, ports, port, queryUsed_used]
    by_cases used : s.used p = true <;> by_cases mem : p ∈ l <;> simp [used, mem, eq_comm]

theorem beginWork_queried {s : State} (g : Config) (cfgdef : Bool) (temp : BitVec 9) (drv : s.drv = Driver.reset) :
    Queried (beginWork s g cfgdef temp) := by
  have reset : ∀ p, (s.workBegun g cfgdef temp).dport p = PortDrv.reset := fun p => by
    change tget s.drv.ports p = _
    rw [drv]; exact tget_tconst _ _
  have free : (s.workBegun g cfgdef temp).drv.inFlight = none := by
    change s.drv.inFlight = none
    rw [drv]; rfl
  obtain ⟨phase, free', port⟩ := foldl_queryUsed (List.nodup_finRange 16) free fun p _ => reset p
  refine ⟨phase, free', fun p => ?_⟩
  have used : (beginWork s g cfgdef temp).used p = (s.workBegun g cfgdef temp).used p := by
    rw [State.used, (beginWork_frame s g cfgdef temp).config]; rfl
  rw [used, ← reset p]
  exact (port p).trans (by simp)

/-! ## The arbiter's first choice (R111) -/

theorem lowestKey_mem {l : List (Nat × Port × Entry)} {x : Nat × Port × Entry} (h : lowestKey l = some x) : x ∈ l := by
  induction l generalizing x with
  | nil => cases h
  | cons y ys ih =>
    unfold lowestKey at h
    split at h
    · next z hz =>
      split at h
      · cases h; exact List.mem_cons_of_mem _ (ih hz)
      · cases h; exact List.mem_cons_self
    · cases h; exact List.mem_cons_self

theorem lowestKey_eq_none {l : List (Nat × Port × Entry)} : lowestKey l = none ↔ l = [] := by
  cases l with
  | nil => exact ⟨fun _ => rfl, fun _ => rfl⟩
  | cons y ys =>
    refine ⟨fun h => ?_, nofun⟩
    unfold lowestKey at h
    split at h
    · split at h <;> cases h
    · cases h

theorem mem_queued {s : State} {k : Nat} {p : Port} {e : Entry} (h : (k, p, e) ∈ s.queued) :
    (s.dport p).queue = some e := by
  simp only [State.queued, List.mem_filterMap, Option.map_eq_some_iff, Prod.mk.injEq] at h
  obtain ⟨q, -, e', queue, -, rfl, rfl⟩ := h
  exact queue

theorem queued_eq_nil {s : State} : s.queued = [] ↔ ∀ p, (s.dport p).queue = none := by
  simp [State.queued, List.filterMap_eq_nil_iff]

/-- On a free link with an entry queued some queued entry starts (R111, R112). -/
theorem arbitrate_starts {s : State} {p : Port} {e : Entry} (free : s.drv.inFlight = none)
    (queue : (s.dport p).queue = some e) : ∃ q x, (s.dport q).queue = some x ∧ arbitrate s = startEntry s q x := by
  cases first : lowestKey s.queued with
  | none =>
    have empty := queued_eq_nil.1 (lowestKey_eq_none.1 first) p
    rw [empty] at queue
    cases queue
  | some x =>
    obtain ⟨k, q, x⟩ := x
    exact ⟨q, x, mem_queued (lowestKey_mem first), by simp [arbitrate, free, first]⟩

theorem arbitrate_of_empty {s : State} (free : s.drv.inFlight = none) (empty : ∀ p, (s.dport p).queue = none) :
    arbitrate s = s := by
  simp [arbitrate, free, lowestKey_eq_none.2 (queued_eq_nil.2 empty)]

/-! ## The first moment of readback (R118, R204) -/

theorem handOn_of_readback {s : State} (phase : s.phase = .readback) :
    handOn s = timing (readbackCheck (arbitrate s)) := by
  have waits : protect s = s := by simp [protect, State.running, phase]
  rw [handOn, waits]

theorem conclude_listenTimer (s0 s : State) : (conclude s0 s).listenTimer = (handOn s).listenTimer :=
  alarms_listenTimer _ _

/-- With a used port, one QUERY starts and readback goes on. -/
theorem handOn_of_queried {s : State} {p : Port} (h : Queried s)
    (used : s.used p = true) : (handOn s).phase = .readback ∧
      ∀ p, s.used p = true → ((handOn s).dport p).queue = some ⟨.query, .driver, false⟩ ∨
        ∃ f, (handOn s).drv.inFlight = some f ∧ f.port = p ∧ f.entry.cmd = .query := by
  have queue : ∀ p, s.used p = true → (s.dport p).queue = some ⟨.query, .driver, false⟩ := fun p used => by
    rw [h.port, if_pos used]; rfl
  obtain ⟨q, x, hx, started⟩ := arbitrate_starts h.free (queue p used)
  have entry : x = ⟨.query, .driver, false⟩ := by
    rw [h.port] at hx
    split at hx <;> cases hx
    rfl
  have goesOn : readbackCheck (startEntry s q x) = startEntry s q x := by
    simp [readbackCheck, State.driverQuiet, startEntry]
  rw [handOn_of_readback h.readback, started, goesOn, timing_phase, timing_drv]
  refine ⟨h.readback, fun p used => ?_⟩
  by_cases hp : q = p
  · exact .inr ⟨_, rfl, hp, by rw [entry]⟩
  · left
    rw [State.dport, timing_drv]
    change ((s.setDport q _).dport p).queue = _
    rw [setDport_dport, if_neg hp]
    exact queue p used

/-- With no used port, readback ends at the settling. -/
theorem handOn_of_none_queried {s : State} (h : Queried s)
    (unused : ∀ p, s.used p = false) : (handOn s).phase = .listening ∧ (handOn s).listenTimer = some 100 := by
  have port : ∀ p, s.dport p = PortDrv.reset := fun p => by rw [h.port, unused]; rfl
  have quiet : s.driverQuiet = true := by simp [State.driverQuiet, h.free, port, PortDrv.reset]
  rw [handOn_of_readback h.readback, arbitrate_of_empty h.free fun p => by rw [port]; rfl, timing_phase,
    timing_listenTimer, readbackCheck, if_pos ⟨h.readback, quiet⟩]
  exact ⟨rfl, rfl⟩

/-! ## The reads of the memory (R200) -/

theorem configReadEnd_good {s : State} {second : Bool} (image : List Byte) (i : RawImage) (temp : BitVec 9)
    (phase : s.phase = .loading second) :
    exec (.configReadEnd (.completed image i (crcOf image)) temp) s = .next (settle s i false temp) := by
  change execConfigReadEnd (.completed image i (crcOf image)) temp s = _
  simp [execConfigReadEnd, phase]

/-- The three ways in which a read fails (R200). -/
inductive FailsToRead (s : State) (temp : BitVec 9) : Instr → Prop where
  | timeout (out : s.loadTimer = some 0) : FailsToRead s temp (.configReadTimeout temp)
  | noAnswer : FailsToRead s temp (.configReadEnd .noAnswer temp)
  | crc (image : List Byte) (fields : RawImage) (held : BitVec 16) (differs : crcOf image ≠ held) :
    FailsToRead s temp (.configReadEnd (.completed image fields held) temp)

/-- They are treated alike. -/
theorem FailsToRead.exec_eq {s : State} {temp : BitVec 9} {c : Instr} {second : Bool} (h : FailsToRead s temp c)
    (phase : s.phase = .loading second) : exec c s = .next (readFailed s second temp) := by
  cases h with
  | timeout out =>
    change execConfigReadTimeout temp s = _
    simp [execConfigReadTimeout, phase, out]
  | noAnswer =>
    change execConfigReadEnd .noAnswer temp s = _
    simp [execConfigReadEnd, phase]
  | crc image fields held differs =>
    change execConfigReadEnd (.completed image fields held) temp s = _
    simp [execConfigReadEnd, phase, differs]

theorem configReadTimeout_early {s : State} (temp : BitVec 9) (left : s.loadTimer ≠ some 0) :
    exec (.configReadTimeout temp) s = .next s := by
  change execConfigReadTimeout temp s = _
  unfold execConfigReadTimeout
  rw [(ranOut_eq_false _).2 left]
  split <;> rfl

/-- The default image needs no replacement (R201). -/
theorem settleImage_default (own : Station) : settleImage RawImage.default own = Config.default := rfl

/-! ## The obligations -/

/-- Some port is used where the set of used ports is not empty. -/
theorem exists_used {used : BitVec 16} (h : used ≠ 0) : ∃ p : Port, used.getLsbD p.val = true := by
  by_contra unused
  refine h (BitVec.eq_of_getLsbD_eq fun k hk => ?_)
  have bit : used.getLsbD k ≠ true := fun bit => unused ⟨⟨k, hk⟩, bit⟩
  simpa using bit

/-- Settles O7: the settling's frame gives the state, and the Driver at reset gives the first moment of readback. -/
theorem goodReadSettlesTheImage : Obligations.GoodReadSettlesTheImage := by
  intro image i temp second s phase drv
  have frame := settle_frame s i false temp
  have work := beginWork_frame s (settleImage i s.own) (false || imageReplaced i s.own) temp
  have queried := beginWork_queried (settleImage i s.own) (false || imageReplaced i s.own) temp drv
  set u := beginWork s (settleImage i s.own) (false || imageReplaced i s.own) temp
  have settled : settle s i false temp = conclude s u := rfl
  have used : ∀ p, u.used p = i.used.getLsbD p.val := fun p => by rw [State.used, work.config]; rfl
  refine ⟨_, configReadEnd_good image i temp phase, frame.config, frame.cfgdef, frame.straps, frame.scan, frame.peers,
    frame.dec, frame.cap, frame.temp, frame.seconds, frame.k, fun p hp => ?_, fun ports => ?_, fun noPort => ?_⟩
  · rw [State.dport, settled, conclude_drv]
    exact (handOn_of_queried queried ((used p).trans hp)).2 p ((used p).trans hp)
  · obtain ⟨p, hp⟩ := exists_used ports
    rw [settled, conclude_phase]
    exact (handOn_of_queried queried ((used p).trans hp)).1
  · have unused : ∀ p, u.used p = false := fun p => by rw [used, noPort]; exact BitVec.getLsbD_zero
    rw [settled, conclude_phase, conclude_listenTimer]
    exact handOn_of_none_queried queried unused

/-- Settles O8: the failures are one event, and the second settles the default image. -/
theorem failedReadsEndInTheDefaultImage : Obligations.FailedReadsEndInTheDefaultImage := by
  intro c temp s
  refine ⟨configReadTimeout_early temp, fun failure => ?_⟩
  have fails : FailsToRead s temp c := by
    rcases failure with ⟨rfl, out⟩ | rfl | ⟨image, fields, held, differs, rfl⟩
    · exact .timeout out
    · exact .noAnswer
    · exact .crc image fields held differs
  refine ⟨fun first => fails.exec_eq first, fun second => ?_⟩
  have frame := settle_frame s RawImage.default true temp
  rw [settleImage_default] at frame
  exact ⟨_, fails.exec_eq second, frame.config, frame.cfgdef, frame.loadTimer, frame.temp, frame.dec, frame.cap⟩

end Sys2Proof.Machine
end

section
/-! SUPPORT. Trigger pending over the end of an event (R45): only the transmitter clears it, so an announce that an
event requests is still requested when its changes have been handed on. -/

namespace Sys2Proof.Machine

/-! ## The relation -/

/-- From `s` to `t` trigger pending is not cleared. -/
structure TriggerKept (s t : State) : Prop where
  trigger : s.line.trigger = true → t.line.trigger = true

theorem TriggerKept.refl (s : State) : TriggerKept s s := ⟨id⟩

theorem TriggerKept.trans {s t u : State} (h : TriggerKept s t) (g : TriggerKept t u) : TriggerKept s u :=
  ⟨g.trigger ∘ h.trigger⟩

theorem triggerKept_of_line {s t : State} (h : t.line = s.line) : TriggerKept s t := ⟨by rw [h]; exact id⟩

/-- What is written first does not matter where it leaves the line as it is. -/
theorem TriggerKept.of_written {s t u : State} (h : TriggerKept t u) (line : t.line = s.line) : TriggerKept s u :=
  (triggerKept_of_line line).trans h

/-- Either branch of a choice keeps it, so the choice does. -/
theorem TriggerKept.ite {s t u : State} {c : Prop} [Decidable c] (h : TriggerKept s t) (g : TriggerKept s u) :
    TriggerKept s (if c then t else u) := by
  split
  · exact h
  · exact g

theorem foldl_keepsTrigger {α : Type} {f : State → α → State} (hf : ∀ s x, TriggerKept s (f s x)) (l : List α)
    (s : State) : TriggerKept s (l.foldl f s) := by
  induction l generalizing s with
  | nil => exact .refl s
  | cons x xs ih => exact (hf s x).trans (ih (f s x))

/-! ## The request itself -/

/-- In normal running a request for a triggered announce sets trigger pending (R45). -/
theorem requestTrigger_trigger {s : State} (running : s.phase = .running) :
    (requestTrigger s).line.trigger = true := by simp [requestTrigger, State.running, running, BayLine.trig]

theorem requestTrigger_keepsTrigger (s : State) : TriggerKept s (requestTrigger s) := by
  unfold requestTrigger; split
  · exact ⟨fun _ => rfl⟩
  · exact .refl s

theorem triggerIf_keepsTrigger (b : Bool) (s : State) : TriggerKept s (triggerIf b s) := by
  unfold triggerIf; split
  · exact requestTrigger_keepsTrigger s
  · exact .refl s

/-- A record is written and a triggered announce requested. -/
theorem requestTrigger_updRec_keepsTrigger (s : State) (p : Port) (f : PortRec → PortRec) :
    TriggerKept s (requestTrigger (updRec s p f)) := (requestTrigger_keepsTrigger _).of_written rfl

/-! ## The queue and the exercise step (R109–R111, R125–R127) -/

@[simp] theorem removeEntry_line (s : State) (p : Port) (m : Maker) : (removeEntry s p m).line = s.line := by
  unfold removeEntry putQueue; split
  · rfl
  · split <;> rfl

theorem removeEntry_keepsTrigger (s : State) (p : Port) (m : Maker) : TriggerKept s (removeEntry s p m) :=
  triggerKept_of_line (removeEntry_line s p m)

theorem putEntry_keepsTrigger (s : State) (p : Port) (e : Option Entry) : TriggerKept s (putEntry s p e) := by
  unfold putEntry; split <;> exact triggerKept_of_line rfl

theorem endStep_keepsTrigger (s : State) (r : ExResult) : TriggerKept s (endStep s r) :=
  .of_written (triggerIf_keepsTrigger _ _) rfl

theorem stepReplaced_keepsTrigger (s : State) : TriggerKept s (stepReplaced s) := by
  unfold stepReplaced; split
  · exact endStep_keepsTrigger s _
  · exact .refl s

theorem ask_keepsTrigger (s : State) (p : Port) (c : Cmd) (m : Maker) (b : Bool) : TriggerKept s (ask s p c m b) := by
  unfold ask
  split
  · exact putEntry_keepsTrigger s p _
  · next old _ =>
    have placed := putEntry_keepsTrigger s p (some ⟨c, m, old.overBridge⟩)
    have restarted : TriggerKept (putEntry s p (some ⟨c, m, old.overBridge⟩)) (restartRetry (putEntry s p _) p) :=
      triggerKept_of_line (setDport_line _ p _)
    have retried := placed.trans restarted |>.ite (c := old.isDriverUnbridge && decide (m ≠ .driver)) placed
    exact .ite (retried.trans (stepReplaced_keepsTrigger _)) retried

theorem endStep_removed_keepsTrigger (s : State) (p : Port) (m : Maker) (r : ExResult) :
    TriggerKept s (endStep (removeEntry s p m) r) :=
  (removeEntry_keepsTrigger s p m).trans (endStep_keepsTrigger _ r)

@[simp] theorem markStep_line (s : State) (st : Step) : (markStep s st).line = s.line := rfl

theorem stepPortBusy_keepsTrigger (s : State) : TriggerKept s (stepPortBusy s) := by
  unfold stepPortBusy
  split
  · exact .refl s
  · exact .ite (.refl s) <| .ite (endStep_removed_keepsTrigger s _ _ _) (triggerKept_of_line (markStep_line s _))

theorem stepRelease_keepsTrigger (s : State) : TriggerKept s (stepRelease s) := by
  unfold stepRelease
  split
  · exact .refl s
  · refine .ite (.ite (endStep_removed_keepsTrigger s _ _ _) ?_) (.refl s)
    exact .of_written (triggerIf_keepsTrigger _ _) (markStep_line s _)

/-! ## What a record does (R73–R84) -/

theorem withdraw_keepsTrigger (s : State) (p : Port) (st : PortState) : TriggerKept s (withdraw s p st) :=
  requestTrigger_updRec_keepsTrigger s p _

theorem withdraw_removed_keepsTrigger (s : State) (p : Port) (m : Maker) (st : PortState) :
    TriggerKept s (withdraw (removeEntry s p m) p st) :=
  (removeEntry_keepsTrigger s p m).trans (withdraw_keepsTrigger _ p st)

theorem dropTransfer_keepsTrigger (s : State) (p : Port) : TriggerKept s (dropTransfer s p) := by
  unfold dropTransfer; split
  · exact (removeEntry_keepsTrigger s p .record).trans (requestTrigger_updRec_keepsTrigger _ p _)
  · exact .refl s

theorem setClass_keepsTrigger (s : State) (p : Port) (c : Class) : TriggerKept s (setClass s p c) := by
  unfold setClass
  split
  · split
    · exact .refl s
    · exact requestTrigger_updRec_keepsTrigger s p _
  · exact .refl s

theorem enterReleasing_keepsTrigger (s : State) (p : Port) : TriggerKept s (enterReleasing s p) :=
  have stopped : TriggerKept s (triggerIf (s.prec p).transfer.isSome (updRec s p fun r =>
      { r with state := .releasing, transfer := none, window := none, wtr := none })) :=
    .of_written (triggerIf_keepsTrigger _ _) (updRec_line s p _)
  stopped.trans (ask_keepsTrigger _ p .restore .record false)

theorem waitReleasing_keepsTrigger (s : State) (p : Port) : TriggerKept s (waitReleasing s p) :=
  triggerKept_of_line rfl

/-! ## The effective request (R75–R83) -/

theorem requestIdle_line (s : State) (p : Port) : (requestIdle s p).line = s.line := by
  unfold requestIdle; split
  · rfl
  · split <;> rfl

theorem requestHoldoff_line (s : State) (p : Port) : (requestHoldoff s p).line = s.line := by
  unfold requestHoldoff; split
  · rfl
  · split <;> rfl

theorem requestSeeking_line (s : State) (p : Port) : (requestSeeking s p).line = s.line := by
  unfold requestSeeking; split <;> rfl

theorem requestClaiming_keepsTrigger (s : State) (p : Port) : TriggerKept s (requestClaiming s p) := by
  unfold requestClaiming
  split
  · exact withdraw_keepsTrigger s p _
  · exact .ite (withdraw_keepsTrigger s p _) (setClass_keepsTrigger s p _)
  · exact .refl s

theorem requestConnecting_keepsTrigger (s : State) (p : Port) : TriggerKept s (requestConnecting s p) := by
  unfold requestConnecting
  split
  · exact .ite (waitReleasing_keepsTrigger s p) (withdraw_removed_keepsTrigger s p _ _)
  · exact .ite (withdraw_removed_keepsTrigger s p _ _) (setClass_keepsTrigger s p _)
  · exact .refl s

theorem requestSwitched_keepsTrigger (s : State) (p : Port) : TriggerKept s (requestSwitched s p) := by
  unfold requestSwitched
  dsimp only
  split
  · exact .ite (waitReleasing_keepsTrigger s p) <| .ite (enterReleasing_keepsTrigger s p) <|
      .of_written (setClass_keepsTrigger _ p _) (updRec_line s p _)
  · next c _ =>
    have rewritten := setClass_keepsTrigger s p c
    split
    · exact .ite (rewritten.trans (dropTransfer_keepsTrigger _ p)) rewritten
    · exact rewritten
  · exact .refl s

theorem requestWtr_keepsTrigger (s : State) (p : Port) : TriggerKept s (requestWtr s p) := by
  unfold requestWtr
  split
  · exact .of_written (setClass_keepsTrigger _ p _) (updRec_line s p _)
  · exact .ite (enterReleasing_keepsTrigger s p) (.refl s)

theorem handleRequest_keepsTrigger (s : State) (p : Port) : TriggerKept s (handleRequest s p) := by
  unfold handleRequest
  cases (s.prec p).state with
  | idle => exact triggerKept_of_line (requestIdle_line s p)
  | holdoff => exact triggerKept_of_line (requestHoldoff_line s p)
  | seeking => exact triggerKept_of_line (requestSeeking_line s p)
  | claiming => exact requestClaiming_keepsTrigger s p
  | connecting => exact requestConnecting_keepsTrigger s p
  | switched => exact requestSwitched_keepsTrigger s p
  | wtr => exact requestWtr_keepsTrigger s p
  | releasing => exact .refl s

/-! ## The release causes (R74, R90) -/

theorem releaseSwitched_keepsTrigger (s : State) (p : Port) (k : Claim) : TriggerKept s (releaseSwitched s p k) := by
  have released := enterReleasing_keepsTrigger s p
  unfold releaseSwitched
  split
  · exact .ite released (.refl s)
  · exact .ite (.ite (waitReleasing_keepsTrigger s p) released) <| .ite (.refl s) <| .ite released <|
      .ite (dropTransfer_keepsTrigger s p) (.refl s)

theorem releaseRecord_keepsTrigger (s : State) (p : Port) : TriggerKept s (releaseRecord s p) := by
  unfold releaseRecord
  split
  · exact .refl s
  · next k _ =>
    dsimp only
    cases (s.prec p).state with
    | claiming => exact .ite (withdraw_keepsTrigger s p _) (.refl s)
    | connecting =>
      exact .ite (.ite (waitReleasing_keepsTrigger s p) (withdraw_removed_keepsTrigger s p _ _)) (.refl s)
    | switched => exact releaseSwitched_keepsTrigger s p k
    | wtr => exact .ite (enterReleasing_keepsTrigger s p) (.refl s)
    | idle | holdoff | seeking | releasing => exact .refl s

theorem releaseAll_keepsTrigger (s : State) : TriggerKept s (releaseAll s) :=
  (foldl_keepsTrigger releaseRecord_keepsTrigger (idx 16) s).trans (stepRelease_keepsTrigger _)

/-! ## The choices (R91, R92) -/

theorem makeClaim_keepsTrigger (s : State) (p : Port) (sp : Spare) : TriggerKept s (makeClaim s p sp) := by
  unfold makeClaim; split
  · exact .refl s
  · exact requestTrigger_updRec_keepsTrigger s p _

@[simp] theorem setDemand_line (s : State) (sp : Spare) (d : Option Port) : (setDemand s sp d).line = s.line := rfl

theorem chooseRecord_keepsTrigger (s : State) (p : Port) : TriggerKept s (chooseRecord s p) := by
  unfold chooseRecord
  refine .ite ?_ (.refl s)
  split
  · exact .refl s
  · next sp _ =>
    have released : TriggerKept s (releaseAll (setDemand s sp (some p))) :=
      .of_written (releaseAll_keepsTrigger _) (setDemand_line s sp _)
    have claimed := released.trans (.of_written (makeClaim_keepsTrigger _ p sp) (setDemand_line _ sp none))
    exact .ite (.ite released claimed) (makeClaim_keepsTrigger s p sp)

theorem chooseAll_keepsTrigger (s : State) : TriggerKept s (chooseAll s) :=
  .of_written (foldl_keepsTrigger chooseRecord_keepsTrigger _ _) rfl

theorem noteRequests_keepsTrigger (s : State) : TriggerKept s (noteRequests s) :=
  foldl_keepsTrigger (fun u p => triggerKept_of_line (updRec_line u p _)) (idx 16) s

theorem protectAll_keepsTrigger (s : State) : TriggerKept s (protectAll s) :=
  (foldl_keepsTrigger handleRequest_keepsTrigger (idx 16) s).trans <| (stepPortBusy_keepsTrigger _).trans <|
    (releaseAll_keepsTrigger _).trans <| (chooseAll_keepsTrigger _).trans (noteRequests_keepsTrigger _)

/-- The trigger is part of what a group of blocks hands back. -/
theorem TriggerKept.requestPart {s t : State} (h : TriggerKept s t) : TriggerKept s (requestPart s t) := ⟨h.trigger⟩

theorem TriggerKept.timingPart {s t : State} (h : TriggerKept s t) : TriggerKept s (timingPart s t) := ⟨h.trigger⟩

theorem protect_keepsTrigger (s : State) : TriggerKept s (protect s) := by
  unfold protect; split
  · exact (protectAll_keepsTrigger s).requestPart
  · exact .refl s

/-! ## Timing (R139–R144) -/

theorem setTiming_keepsTrigger (s : State) (st : TimingState) : TriggerKept s (setTiming s st) :=
  .of_written (triggerIf_keepsTrigger _ _) rfl

theorem enterHoldover_keepsTrigger (s : State) : TriggerKept s (enterHoldover s) := by
  unfold enterHoldover; split
  · exact .of_written (setTiming_keepsTrigger _ _) rfl
  · exact setTiming_keepsTrigger s _

theorem enterAcquiring_keepsTrigger (s : State) : TriggerKept s (enterAcquiring s) :=
  .of_written (setTiming_keepsTrigger _ _) rfl

theorem reselect_keepsTrigger (s : State) : TriggerKept s (reselect s) := by
  unfold reselect
  refine .ite (.refl s) ?_
  dsimp only
  split
  · exact .of_written (enterAcquiring_keepsTrigger _) rfl
  · exact .ite (.of_written (enterHoldover_keepsTrigger _) rfl) (triggerKept_of_line rfl)

theorem announceTiming_keepsTrigger (s : State) : TriggerKept s (announceTiming s) :=
  .of_written (triggerIf_keepsTrigger _ _) rfl

theorem timingAll_keepsTrigger (s : State) : TriggerKept s (timingAll s) :=
  have judged : TriggerKept s (judgeFails s) := triggerKept_of_line rfl
  judged.trans ((reselect_keepsTrigger _).trans (announceTiming_keepsTrigger _))

theorem timing_keepsTrigger (s : State) : TriggerKept s (timing s) := by
  unfold timing; split
  · exact (timingAll_keepsTrigger s).timingPart
  · exact .refl s

/-! ## The whole end of an event -/

theorem arbitrate_keepsTrigger (s : State) : TriggerKept s (arbitrate s) :=
  triggerKept_of_line (by rw [arbitrate_eq])

theorem alarms_keepsTrigger (old : Alarm) (s : State) : TriggerKept s (alarms old s) :=
  .of_written (triggerIf_keepsTrigger _ _) rfl

/-- In normal running the end of an event clears no trigger pending (R45). -/
theorem conclude_keepsTrigger (s0 : State) {s : State} (running : s.phase = .running) :
    TriggerKept s (conclude s0 s) := by
  unfold conclude
  rw [handOn_running s running]
  exact (protect_keepsTrigger s).trans
    ((arbitrate_keepsTrigger _).trans ((timing_keepsTrigger _).trans (alarms_keepsTrigger _ _)))

/-- A triggered announce that an event of normal running requests is pending after it. -/
theorem conclude_requestTrigger_trigger (s0 : State) {s : State} (running : s.phase = .running) :
    (conclude s0 (requestTrigger s)).line.trigger = true :=
  (conclude_keepsTrigger s0 ((requestTrigger_phase s).trans running)).trigger (requestTrigger_trigger running)

end Sys2Proof.Machine
end

section
/-! SUPPORT. The expiries of the peer view (O24): a record, a quarantine, silence and the unheard timer. -/

namespace Sys2Proof.Machine

/-! ## Within the frame of the event -/

/-- The end of an event leaves the peer view as the event made it. -/
@[simp] theorem conclude_peers (s0 s : State) : (conclude s0 s).peers = s.peers := (conclude_frame s0 s).peers

theorem PeersMoved.conclude {s t : State} (h : PeersMoved s t) (s0 : State) : PeersMoved s (conclude s0 t) :=
  h.trans <| by unfold PeersMoved; rw [conclude_peers]; exact conclude_frame s0 t

@[simp] theorem conclude_peer (s0 s : State) (n : Station) : (conclude s0 s).peer n = s.peer n := by
  rw [State.peer, conclude_peers]; rfl

/-- The unheard test moves no record. -/
@[simp] theorem unheardEval_peer (s : State) (n : Station) : (unheardEval s).peer n = s.peer n := by
  rw [State.peer, unheardEval_peers]; rfl

/-- A peer view written with a triggered announce requested, as at an expiry of the station's own timers (R63). -/
theorem requestTrigger_moved (s : State) (v : PeerView) : PeersMoved s (requestTrigger { s with peers := v }) := by
  unfold PeersMoved; rw [requestTrigger_peers]; exact requestTrigger_frame _

/-! ## Which records expire (R55) -/

theorem due_of_age {r : PeerRec} {a : Nat} (present : r.present = true) (age : r.age = some a) (old : 200 ≤ a) :
    r.due = true := (due_iff r).2 ⟨present, by rw [age]; exact old⟩

/-- An absent record, a younger one, or one that was never heard takes no expiry. -/
theorem due_eq_false {r : PeerRec} (h : r.present = false ∨ ∀ a, r.age = some a → a < 200) : r.due = false := by
  rcases h with absent | young
  · simp [PeerRec.due, absent]
  · cases age : r.age with
    | none => simp [PeerRec.due, age]
    | some a => simp [PeerRec.due, age, young a age]

/-- The claims of the last content are frozen, unless a quarantine still runs (R55). -/
theorem expired_quarantine (r : PeerRec) : r.expired.quarantine =
    (match r.quarantine, r.content with
      | some q, _ => some q
      | none, some a => some ⟨a.claims, 1000⟩
      | none, none => some ⟨[], 1000⟩) := by
  obtain ⟨_, _, content, quarantine⟩ := r
  cases quarantine with
  | some q => rfl
  | none => cases content <;> rfl

/-! ## The four events -/

/-- The state in which a record has expired and the unheard test been made, before the changes are handed on (R55). -/
def State.peerExpired (s : State) (n : Station) : State := unheardEval (s.setPeer n (s.peer n).expired)

theorem peerExpired_peer (s : State) (n m : Station) :
    (s.peerExpired n).peer m = if n = m then (s.peer n).expired else s.peer m := by
  simp [State.peerExpired, setPeer_peer]

/-- It writes records and the unheard timer. -/
theorem peerExpired_peers (s : State) (n : Station) : (s.peerExpired n).peers =
    { s.peers with recs := (s.peerExpired n).peers.recs, unheardTimer := (s.peerExpired n).peers.unheardTimer } := by
  unfold State.peerExpired; rw [unheardEval_peers]; rfl

theorem peerExpired_moved (s : State) (n : Station) : PeersMoved s (s.peerExpired n) :=
  (setPeer_moved s n _).trans (unheardEval_moved _)

theorem peerExpiry_due {s : State} {n : Station} (due : (s.peer n).due = true) :
    exec (.peerExpiry n) s = .next (conclude s (s.peerExpired n)) := if_pos due

theorem peerExpiry_not_due {s : State} {n : Station} (due : (s.peer n).due = false) :
    exec (.peerExpiry n) s = .next s := if_neg (by simp [due])

theorem quarantineEnd_over {s : State} {n : Station} {c : List AnnClaim}
    (ended : (s.peer n).quarantine = some ⟨c, 0⟩) :
    exec (.quarantineEnd n) s = .next (conclude s (s.setPeer n { s.peer n with quarantine := none })) :=
  ite_ranOut_of_eq (by rw [ended]; rfl) _ _

theorem quarantineEnd_early {s : State} {n : Station} (left : ∀ q, (s.peer n).quarantine = some q → q.timer ≠ 0) :
    exec (.quarantineEnd n) s = .next s := by
  refine ite_ranOut_of_ne (fun ended => ?_) _ _
  obtain ⟨q, quarantine, zero⟩ := Option.map_eq_some_iff.1 ended
  exact left q quarantine zero

/-- The station's own timers write the peer view and ask for a triggered announce (R63). -/
theorem conclude_requestTrigger_of_peers {s : State} {c : Instr} {v : PeerView}
    (event : exec c s = .next (conclude s (requestTrigger { s with peers := v }))) :
    ∃ t, exec c s = .next t ∧ t.peers = v ∧ (s.phase = .running → t.line.trigger = true) ∧
      EventFrame { s with peers := t.peers } t :=
  ⟨_, event, (conclude_peers s _).trans (requestTrigger_peers _),
    fun running => conclude_requestTrigger_trigger s running, (requestTrigger_moved s v).conclude s⟩

/-- Settles O24: each event writes its part of the peer view, and its end keeps that view and the trigger. -/
theorem peersExpireAndTheStationIsCutOff : Obligations.PeersExpireAndTheStationIsCutOff := by
  intro s
  refine ⟨fun n a present age old => ?_, fun n young => peerExpiry_not_due (due_eq_false young),
    fun n => quarantineEnd_early, fun left => ite_ranOut_of_ne left _ _, fun left => ite_ranOut_of_ne left _ _,
    fun n c ended => ⟨_, quarantineEnd_over ended, ?_, fun m other => ?_, (setPeer_moved s n _).conclude s⟩,
    fun ended => conclude_requestTrigger_of_peers (ite_ranOut_of_eq ended _ _),
    fun ended => conclude_requestTrigger_of_peers (ite_ranOut_of_eq ended _ _)⟩
  · have expired : (conclude s (s.peerExpired n)).peer n = (s.peer n).expired := by
      rw [conclude_peer, peerExpired_peer, if_pos rfl]
    have view := (conclude_peers s (s.peerExpired n)).trans (peerExpired_peers s n)
    refine ⟨_, peerExpiry_due (due_of_age present age old), ?_, ?_, ?_, ?_, fun m other => ?_, ?_, ?_, ?_,
      (peerExpired_moved s n).conclude s⟩
    · rw [expired]; rfl
    · rw [expired]; rfl
    · rw [expired]; exact age
    · rw [expired]; exact expired_quarantine _
    · rw [conclude_peer, peerExpired_peer, if_neg other.symm]
    · rw [view]
    · rw [view]
    · rw [view]
  · rw [conclude_peer, setPeer_same]
  · rw [conclude_peer, setPeer_peer, if_neg other.symm]

end Sys2Proof.Machine
end

section
/-! SUPPORT. The rank of R88 as a linear order, and the view of a spare sorted by it (O36). -/

namespace Sys2Proof.Machine

/-! ## The rank (R88) -/

/-- The three keys of R88, an earlier place in the view being a smaller value: class higher first, then lower station
number, then lower port number. -/
def ViewEntry.rank (e : ViewEntry) : ℕᵒᵈ ×ₗ ℕ ×ₗ ℕ :=
  toLex (OrderDual.toDual e.cls.code, toLex (e.station, e.port))

theorem outranks_iff {a b : ViewEntry} : a.outranks b = true ↔ a.rank < b.rank := by
  simp [ViewEntry.outranks, ViewEntry.rank, Prod.Lex.toLex_lt_toLex]

theorem outranks_eq_false_iff {a b : ViewEntry} : b.outranks a = false ↔ a.rank ≤ b.rank := by
  rw [← Bool.not_eq_true, outranks_iff, not_lt]

/-! ## The insertions (R89) -/

theorem insertRanked_perm (e : ViewEntry) (l : List ViewEntry) : (insertRanked e l).Perm (e :: l) := by
  induction l with
  | nil => exact .refl _
  | cons x xs ih =>
    unfold insertRanked
    split
    · exact .refl _
    · exact (ih.cons x).trans (.swap e x xs)

theorem insertRanked_pairwise (e : ViewEntry) {l : List ViewEntry} (sorted : l.Pairwise (·.rank ≤ ·.rank)) :
    (insertRanked e l).Pairwise (·.rank ≤ ·.rank) := by
  induction l with
  | nil => exact List.pairwise_singleton _ e
  | cons x xs ih =>
    have ⟨before, rest⟩ := List.pairwise_cons.1 sorted
    unfold insertRanked
    split
    next above =>
      have first : e.rank ≤ x.rank := (outranks_iff.1 above).le
      exact List.pairwise_cons.2 ⟨List.forall_mem_cons.2 ⟨first, fun y hy => first.trans (before y hy)⟩, sorted⟩
    next below =>
      have first : x.rank ≤ e.rank := outranks_eq_false_iff.1 (Bool.eq_false_of_not_eq_true below)
      have least : ∀ y ∈ e :: xs, x.rank ≤ y.rank := List.forall_mem_cons.2 ⟨first, before⟩
      exact List.pairwise_cons.2 ⟨fun y hy => least y ((insertRanked_perm e xs).mem_iff.1 hy), ih rest⟩

theorem foldl_insertRanked_perm (l acc : List ViewEntry) :
    (l.foldl (fun acc e => insertRanked e acc) acc).Perm (l ++ acc) := by
  induction l generalizing acc with
  | nil => exact .refl _
  | cons e l ih => exact (ih _).trans (((insertRanked_perm e acc).append_left l).trans List.perm_middle)

theorem foldl_insertRanked_pairwise (l : List ViewEntry) {acc : List ViewEntry}
    (sorted : acc.Pairwise (·.rank ≤ ·.rank)) :
    (l.foldl (fun acc e => insertRanked e acc) acc).Pairwise (·.rank ≤ ·.rank) := by
  induction l generalizing acc with
  | nil => exact sorted
  | cons e l ih => exact ih (insertRanked_pairwise e sorted)

/-! ## The ranked view -/

theorem rankedView_perm (s : State) (sp : Spare) : (s.rankedView sp).Perm (s.viewOf sp) :=
  (foldl_insertRanked_perm (s.viewOf sp) []).trans (by rw [List.append_nil])

theorem rankedView_pairwise (s : State) (sp : Spare) : (s.rankedView sp).Pairwise (·.rank ≤ ·.rank) :=
  foldl_insertRanked_pairwise (s.viewOf sp) .nil

/-- Settles O36: insertion by rank permutes the view of R89 and keeps it sorted. -/
theorem rankedViewHoldsEveryEntryInOrder : Obligations.RankedViewHoldsEveryEntryInOrder := fun s sp =>
  ⟨rankedView_perm s sp, (rankedView_pairwise s sp).imp outranks_eq_false_iff.2⟩

end Sys2Proof.Machine
end

section
/-! SUPPORT. The order of R111 (O38): what the key of an entry says of its command, and the queued entry of the lowest
key. -/

namespace Sys2Proof.Machine

/-! ## The key of an entry (R111) -/

theorem Class.code_le (c : Class) : c.code ≤ 7 := by cases c <;> decide

theorem Class.code_injective {a b : Class} (h : a.code = b.code) : a = b := by
  cases a <;> cases b <;> revert h <;> decide

/-- The groups in which R111 takes the entries; QUERY, which readback alone queues, comes before them. -/
def Cmd.group : Cmd → Nat
  | .query => 0
  | .restore => 1
  | .connect _ => 2
  | .bridge _ => 3
  | .unbridge => 3

theorem Cmd.group_le_zero {x : Cmd} : x.group ≤ 0 ↔ x = .query := by cases x <;> simp [Cmd.group]

theorem Cmd.group_le_one {x : Cmd} : x.group ≤ 1 ↔ x = .query ∨ x = .restore := by cases x <;> simp [Cmd.group]

theorem Cmd.group_le_two {x : Cmd} : x.group ≤ 2 ↔ x = .query ∨ x = .restore ∨ ∃ sp, x = .connect sp := by
  cases x <;> simp [Cmd.group]

section Key

variable {s : State} {p : Port} {e : Entry}

/-- Outside the CONNECTs a group is taken by port. -/
theorem entryKey_of_not_connect (h : ∀ sp, e.cmd ≠ .connect sp) : s.entryKey p e = 256 * e.cmd.group + p.val := by
  unfold State.entryKey
  cases cmd : e.cmd with
  | query => exact (Nat.zero_add _).symm
  | connect sp => exact absurd cmd (h sp)
  | restore | bridge | unbridge => rfl

/-- Among the CONNECTs the class of the claim counts first, and a port without a claim stands last. -/
theorem entryKey_connect {sp : Spare} (h : e.cmd = .connect sp) :
    s.entryKey p e = 512 + (7 - (((s.prec p).claim.map Claim.cls).getD .undecided).code) * 16 + p.val := by
  rw [State.entryKey, h]
  cases (s.prec p).claim <;> rfl

/-- The key of an entry falls in the range of its group. -/
theorem entryKey_div : s.entryKey p e / 256 = e.cmd.group := by
  by_cases h : ∃ sp, e.cmd = .connect sp
  · obtain ⟨sp, cmd⟩ := h
    rw [entryKey_connect cmd, cmd, Cmd.group]
    omega
  · rw [entryKey_of_not_connect (not_exists.1 h)]
    omega

end Key

/-! ## The first entry -/

theorem lowestKey_le {l : List (Nat × Port × Entry)} {x : Nat × Port × Entry} (h : lowestKey l = some x) :
    ∀ y ∈ l, x.1 ≤ y.1 := by
  induction l generalizing x with
  | nil => cases h
  | cons z zs ih =>
    unfold lowestKey at h
    split at h
    next w first =>
      have le := ih first
      split at h <;> cases h
      next lower => exact List.forall_mem_cons.2 ⟨lower.le, le⟩
      next higher => exact List.forall_mem_cons.2 ⟨le_rfl, fun y hy => (Nat.not_lt.1 higher).trans (le y hy)⟩
    next empty =>
      cases h
      rw [lowestKey_eq_none.1 empty]
      simp

theorem mem_queued_iff {s : State} {k : Nat} {p : Port} {e : Entry} :
    (k, p, e) ∈ s.queued ↔ (s.dport p).queue = some e ∧ k = s.entryKey p e := by
  simp only [State.queued, List.mem_filterMap, Option.map_eq_some_iff, Prod.mk.injEq]
  constructor
  · rintro ⟨p, -, e, queue, rfl, rfl, rfl⟩
    exact ⟨queue, rfl⟩
  · rintro ⟨queue, rfl⟩
    exact ⟨p, mem_idx p, e, queue, rfl, rfl, rfl⟩

/-- The slot of a port holds an entry of a command. -/
def State.Queues (s : State) (p : Port) (x : Cmd) : Prop := ∃ e, (s.dport p).queue = some e ∧ e.cmd = x

/-- An entry is queued, and no queued entry has a lower key (R111). -/
structure State.IsFirst (s : State) (p : Port) (e : Entry) : Prop where
  queue : (s.dport p).queue = some e
  le : ∀ r y, (s.dport r).queue = some y → s.entryKey p e ≤ s.entryKey r y

/-- On a free link with an entry queued, the first one starts. -/
theorem arbitrate_starts_first {s : State} {q : Port} {y : Entry} (free : s.drv.inFlight = none)
    (queue : (s.dport q).queue = some y) : ∃ p e, s.IsFirst p e ∧ arbitrate s = startEntry s p e := by
  cases first : lowestKey s.queued with
  | none =>
    have waits := mem_queued_iff.2 ⟨queue, rfl⟩
    rw [lowestKey_eq_none.1 first] at waits
    cases waits
  | some x =>
    obtain ⟨k, p, e⟩ := x
    obtain ⟨own, rfl⟩ := mem_queued_iff.1 (lowestKey_mem first)
    exact ⟨p, e, ⟨own, fun r y hy => lowestKey_le first _ (mem_queued_iff.2 ⟨hy, rfl⟩)⟩,
      by simp [arbitrate, free, first]⟩

theorem arbitrate_of_no_entry {s : State} (empty : ∀ p, (s.dport p).queue = none) : arbitrate s = s := by
  cases busy : s.drv.inFlight with
  | none => exact arbitrate_of_empty busy empty
  | some f => exact arbitrate_busy s (by rw [busy]; rfl)

/-! ## The start (R112) -/

@[simp] theorem startEntry_inFlight (s : State) (p : Port) (e : Entry) :
    (startEntry s p e).drv.inFlight = some ⟨p, e, s.spareConcerned p e, 5⟩ := rfl

theorem startEntry_dport (s : State) (p r : Port) (e : Entry) :
    (startEntry s p e).dport r = if p = r then { s.dport p with queue := none } else s.dport r :=
  setDport_dport s p r _

/-! ## What the first entry is -/

namespace State.IsFirst

variable {s : State} {p : Port} {e : Entry} (first : s.IsFirst p e)
include first

theorem queues : s.Queues p e.cmd := ⟨e, first.queue, rfl⟩

theorem group_le {r : Port} {x : Cmd} (waits : s.Queues r x) : e.cmd.group ≤ x.group := by
  obtain ⟨y, queue, rfl⟩ := waits
  rw [← entryKey_div (s := s) (p := p), ← entryKey_div (s := s) (p := r)]
  exact Nat.div_le_div_right (first.le r y queue)

/-- Within a group other than the CONNECTs the lowest port is first. -/
theorem port_le {r : Port} {x : Cmd} (waits : s.Queues r x) (same : e.cmd.group = x.group)
    (other : x.group ≠ 2) : p ≤ r := by
  obtain ⟨y, queue, rfl⟩ := waits
  have notConnect : ∀ {z : Entry}, z.cmd.group ≠ 2 → ∀ sp, z.cmd ≠ .connect sp := fun ne sp h => ne (by rw [h]; rfl)
  have le := first.le r y queue
  rw [entryKey_of_not_connect (notConnect (same ▸ other)), entryKey_of_not_connect (notConnect other), same] at le
  exact Nat.le_of_add_le_add_left le

theorem query (waits : ∃ r, s.Queues r .query) : e.cmd = .query ∧ ∀ r, s.Queues r .query → p ≤ r := by
  obtain ⟨r, waits⟩ := waits
  have cmd : e.cmd = .query := Cmd.group_le_zero.1 (first.group_le waits)
  exact ⟨cmd, fun r waits => first.port_le waits (by rw [cmd]) (by decide)⟩

theorem restore (noQuery : ∀ r, ¬s.Queues r .query) (waits : ∃ r, s.Queues r .restore) :
    e.cmd = .restore ∧ ∀ r, s.Queues r .restore → p ≤ r := by
  obtain ⟨r, waits⟩ := waits
  have cmd : e.cmd = .restore :=
    (Cmd.group_le_one.1 (first.group_le waits)).resolve_left fun h => noQuery p (h ▸ first.queues)
  exact ⟨cmd, fun r waits => first.port_le waits (by rw [cmd]) (by decide)⟩

theorem connect (noQuery : ∀ r, ¬s.Queues r .query) (noRestore : ∀ r, ¬s.Queues r .restore)
    (waits : ∃ r sp, s.Queues r (.connect sp)) : ∃ sp, e.cmd = .connect sp := by
  obtain ⟨r, sp, waits⟩ := waits
  obtain h | h | h := Cmd.group_le_two.1 (first.group_le waits)
  · exact absurd (h ▸ first.queues) (noQuery p)
  · exact absurd (h ▸ first.queues) (noRestore p)
  · exact h

/-- Among the CONNECTs the rank of the claim counts: class, then port (R88). -/
theorem connect_rank {r : Port} {sp sr : Spare} {kp kr : Claim} (cmd : e.cmd = .connect sp)
    (waits : s.Queues r (.connect sr)) (own : (s.prec p).claim = some kp) (other : (s.prec r).claim = some kr) :
    kr.cls.code < kp.cls.code ∨ kr.cls = kp.cls ∧ p ≤ r := by
  obtain ⟨y, queue, hy⟩ := waits
  have le := first.le r y queue
  simp only [entryKey_connect cmd, entryKey_connect hy, own, other, Option.map_some, Option.getD_some] at le
  have := kp.cls.code_le
  have := kr.cls.code_le
  obtain lower | same : kr.cls.code < kp.cls.code ∨ kr.cls.code = kp.cls.code ∧ p.val ≤ r.val := by omega
  · exact .inl lower
  · exact .inr ⟨Class.code_injective same.1, same.2⟩

theorem bridging {r : Port} {x : Cmd} (last : ∀ r x, s.Queues r x → (∃ sp, x = .bridge sp) ∨ x = .unbridge)
    (waits : s.Queues r x) : p ≤ r := by
  have group : ∀ {q y}, s.Queues q y → y.group = 3 := fun {q y} waits => by
    obtain ⟨sp, rfl⟩ | rfl := last q y waits <;> rfl
  exact first.port_le waits ((group first.queues).trans (group waits).symm) (by rw [group waits]; decide)

end State.IsFirst

/-- Settles O38: the first entry starts, and its key tells its command and its place among its like. -/
theorem arbiterStartsTheFirstInOrder : Obligations.ArbiterStartsTheFirstInOrder := by
  intro s
  refine ⟨arbitrate_busy s, arbitrate_of_no_entry, fun free q y queue => ?_⟩
  obtain ⟨p, e, first, started⟩ := arbitrate_starts_first free queue
  rw [started]
  refine ⟨p, e, first.queue, startEntry_inFlight s p e, by rw [startEntry_dport, if_pos rfl],
    fun r other => by rw [startEntry_dport, if_neg other.symm],
    fun noQuery => ⟨first.restore noQuery, fun noRestore waits => ?_, fun last r x => first.bridging last⟩,
    fun readback => ⟨first.query, fun noQuery r => first.bridging fun r x waits => ?_⟩⟩
  · obtain ⟨sp, cmd⟩ := first.connect noQuery noRestore waits
    exact ⟨⟨sp, cmd⟩, fun r sr waits kp kr => first.connect_rank cmd waits⟩
  · exact .inr ((readback r x waits).resolve_left fun h => noQuery r (h ▸ waits))

end Sys2Proof.Machine
end

section
/-! SUPPORT. What the Protection Engine's handling of an event keeps (R69–R92): a relation that its single writes respect
is respected by the whole, and so the Exerciser stays as it is while no step is in flight (O31, O59). -/

namespace Sys2Proof.Machine

/-! ## The writes of the handling -/

/-- A preorder on states that each write of the Protection Engine's handling respects: of a record, of a port's Driver
state, of the demands, of the trigger, and of the step in flight by what befalls it. -/
structure ProtectClosed (R : State → State → Prop) : Prop where
  refl : ∀ s, R s s
  trans : ∀ {s t u}, R s t → R t u → R s u
  record : ∀ s p r, R s (s.setPrec p r)
  driver : ∀ s p d, R s (s.setDport p d)
  demands : ∀ s d, R s { s with prot := { s.prot with demands := d } }
  trigger : ∀ s, R s (requestTrigger s)
  replaced : ∀ s, R s (stepReplaced s)
  portBusy : ∀ s, R s (stepPortBusy s)
  released : ∀ s, R s (stepRelease s)

namespace ProtectClosed

variable {R : State → State → Prop} (c : ProtectClosed R)

/-- Both branches of a choice keep it, so the choice does. -/
theorem either {s t u : State} {b : Prop} [Decidable b] (h : R s t) (g : R s u) : R s (if b then t else u) := by
  split
  · exact h
  · exact g

include c

theorem foldl {α : Type} {f : State → α → State} (hf : ∀ s x, R s (f s x)) (l : List α) (s : State) :
    R s (l.foldl f s) := by
  induction l generalizing s with
  | nil => exact c.refl s
  | cons x xs ih => exact c.trans (hf s x) (ih (f s x))

theorem keeps_updRec (s : State) (p : Port) (f : PortRec → PortRec) : R s (updRec s p f) := c.record s p _

theorem keeps_triggerIf (b : Bool) (s : State) : R s (triggerIf b s) := either (c.trigger s) (c.refl s)

theorem keeps_announced (s : State) (p : Port) (f : PortRec → PortRec) : R s (requestTrigger (updRec s p f)) :=
  c.trans (c.keeps_updRec s p f) (c.trigger _)

/-! ## The queue (R109, R110) -/

theorem keeps_putEntry (s : State) (p : Port) (e : Option Entry) : R s (putEntry s p e) :=
  either (c.driver s p _) (c.driver s p _)

theorem keeps_removeEntry (s : State) (p : Port) (m : Maker) : R s (removeEntry s p m) :=
  either (c.driver s p _) (either (c.driver s p _) (c.refl s))

theorem keeps_ask (s : State) (p : Port) (cmd : Cmd) (m : Maker) (b : Bool) : R s (ask s p cmd m b) := by
  unfold ask
  split
  · exact c.keeps_putEntry s p _
  · next old _ =>
    have placed := c.keeps_putEntry s p (some ⟨cmd, m, old.overBridge⟩)
    have retried := either (b := (old.isDriverUnbridge && decide (m ≠ .driver)) = true)
      (c.trans placed (c.driver _ p _ : R _ (restartRetry _ p))) placed
    exact either (c.trans retried (c.replaced _)) retried

/-! ## What a record does (R73–R84) -/

theorem keeps_withdraw (s : State) (p : Port) (st : PortState) : R s (withdraw s p st) := c.keeps_announced s p _

theorem keeps_withdraw_removed (s : State) (p : Port) (m : Maker) (st : PortState) :
    R s (withdraw (removeEntry s p m) p st) :=
  c.trans (c.keeps_removeEntry s p m) (c.keeps_withdraw _ p st)

theorem keeps_dropTransfer (s : State) (p : Port) : R s (dropTransfer s p) :=
  either (c.trans (c.keeps_removeEntry s p .record) (c.keeps_announced _ p _)) (c.refl s)

theorem keeps_setClass (s : State) (p : Port) (k : Class) : R s (setClass s p k) := by
  unfold setClass
  split
  · exact either (c.refl s) (c.keeps_announced s p _)
  · exact c.refl s

theorem keeps_enterReleasing (s : State) (p : Port) : R s (enterReleasing s p) :=
  c.trans (c.trans (c.keeps_updRec s p _) (c.keeps_triggerIf _ _)) (c.keeps_ask _ p .restore .record false)

theorem keeps_waitReleasing (s : State) (p : Port) : R s (waitReleasing s p) := c.keeps_updRec s p _

/-! ## The effective request (R75–R83) -/

theorem keeps_requestIdle (s : State) (p : Port) : R s (requestIdle s p) := by
  unfold requestIdle
  split
  · exact c.refl s
  · exact either (c.keeps_updRec s p _) (c.keeps_updRec s p _)

theorem keeps_requestHoldoff (s : State) (p : Port) : R s (requestHoldoff s p) :=
  either (c.keeps_updRec s p _) (either (c.keeps_updRec s p _) (c.refl s))

theorem keeps_requestSeeking (s : State) (p : Port) : R s (requestSeeking s p) := by
  unfold requestSeeking
  split
  · exact c.keeps_updRec s p _
  · exact c.refl s

theorem keeps_requestClaiming (s : State) (p : Port) : R s (requestClaiming s p) := by
  unfold requestClaiming
  split
  · exact c.keeps_withdraw s p _
  · exact either (c.keeps_withdraw s p _) (c.keeps_setClass s p _)
  · exact c.refl s

theorem keeps_requestConnecting (s : State) (p : Port) : R s (requestConnecting s p) := by
  unfold requestConnecting
  split
  · exact either (c.keeps_waitReleasing s p) (c.keeps_withdraw_removed s p _ _)
  · exact either (c.keeps_withdraw_removed s p _ _) (c.keeps_setClass s p _)
  · exact c.refl s

theorem keeps_requestSwitched (s : State) (p : Port) : R s (requestSwitched s p) := by
  unfold requestSwitched
  dsimp only
  split
  · exact either (c.keeps_waitReleasing s p) <| either (c.keeps_enterReleasing s p) <|
      c.trans (c.keeps_updRec s p _) (c.keeps_setClass _ p .wtr)
  · next k _ =>
    have rewritten := c.keeps_setClass s p k
    split
    · exact either (c.trans rewritten (c.keeps_dropTransfer _ p)) rewritten
    · exact rewritten
  · exact c.refl s

theorem keeps_requestWtr (s : State) (p : Port) : R s (requestWtr s p) := by
  unfold requestWtr
  split
  · exact c.trans (c.keeps_updRec s p _) (c.keeps_setClass _ p _)
  · exact either (c.keeps_enterReleasing s p) (c.refl s)

theorem keeps_handleRequest (s : State) (p : Port) : R s (handleRequest s p) := by
  unfold handleRequest
  cases (s.prec p).state with
  | idle => exact c.keeps_requestIdle s p
  | holdoff => exact c.keeps_requestHoldoff s p
  | seeking => exact c.keeps_requestSeeking s p
  | claiming => exact c.keeps_requestClaiming s p
  | connecting => exact c.keeps_requestConnecting s p
  | switched => exact c.keeps_requestSwitched s p
  | wtr => exact c.keeps_requestWtr s p
  | releasing => exact c.refl s

/-! ## The release causes (R74, R90) -/

theorem keeps_releaseSwitched (s : State) (p : Port) (k : Claim) : R s (releaseSwitched s p k) := by
  have released := c.keeps_enterReleasing s p
  unfold releaseSwitched
  split
  · exact either released (c.refl s)
  · exact either (either (c.keeps_waitReleasing s p) released) <| either (c.refl s) <| either released <|
      either (c.keeps_dropTransfer s p) (c.refl s)

theorem keeps_releaseRecord (s : State) (p : Port) : R s (releaseRecord s p) := by
  unfold releaseRecord
  split
  · exact c.refl s
  · next k _ =>
    dsimp only
    cases (s.prec p).state with
    | claiming => exact either (c.keeps_withdraw s p _) (c.refl s)
    | connecting => exact either (either (c.keeps_waitReleasing s p) (c.keeps_withdraw_removed s p _ _)) (c.refl s)
    | switched => exact c.keeps_releaseSwitched s p k
    | wtr => exact either (c.keeps_enterReleasing s p) (c.refl s)
    | idle | holdoff | seeking | releasing => exact c.refl s

theorem keeps_releaseAll (s : State) : R s (releaseAll s) :=
  c.trans (c.foldl c.keeps_releaseRecord (idx 16) s) (c.released _)

/-! ## The choices (R91, R92) -/

theorem keeps_makeClaim (s : State) (p : Port) (sp : Spare) : R s (makeClaim s p sp) := by
  unfold makeClaim
  split
  · exact c.refl s
  · exact c.keeps_announced s p _

theorem keeps_chooseRecord (s : State) (p : Port) : R s (chooseRecord s p) := by
  refine either ?_ (c.refl s)
  split
  · exact c.refl s
  · next sp _ =>
    have demanded : R s (releaseAll (setDemand s sp (some p))) := c.trans (c.demands s _) (c.keeps_releaseAll _)
    have claimed := c.trans demanded (c.trans (c.demands _ _ : R _ (setDemand _ sp none)) (c.keeps_makeClaim _ p sp))
    exact either (either demanded claimed) (c.keeps_makeClaim s p sp)

theorem keeps_chooseAll (s : State) : R s (chooseAll s) :=
  c.trans (c.demands s _ : R s (dropDemands s)) (c.foldl c.keeps_chooseRecord _ _)

theorem keeps_noteRequests (s : State) : R s (noteRequests s) :=
  c.foldl (fun u p => c.keeps_updRec u p _) (idx 16) s

theorem keeps_protectAll (s : State) : R s (protectAll s) := by
  unfold protectAll
  exact c.trans (c.foldl c.keeps_handleRequest (idx 16) s) <| c.trans (c.portBusy _) <|
    c.trans (c.keeps_releaseAll _) <| c.trans (c.keeps_chooseAll _) (c.keeps_noteRequests _)

end ProtectClosed

/-! ## The Exerciser without a step in flight -/

/-- With no step in flight in `s`, the Exerciser of `t` is that of `s`. -/
def SweepKept (s t : State) : Prop := s.exr.step = none → t.exr = s.exr

theorem sweepKept_closed : ProtectClosed SweepKept where
  refl _ _ := rfl
  trans h g idle := (g ((congrArg Exerciser.step (h idle)).trans idle)).trans (h idle)
  record _ _ _ _ := rfl
  driver _ _ _ _ := rfl
  demands _ _ _ := rfl
  trigger s _ := requestTrigger_exr s
  replaced s idle := by simp [stepReplaced, idle]
  portBusy s idle := by simp [stepPortBusy, idle]
  released s idle := by simp [stepRelease, idle]

@[simp] theorem requestPart_exr (s t : State) : (requestPart s t).exr = t.exr := rfl

theorem protect_exr_of_idle {s : State} (idle : s.exr.step = none) : (protect s).exr = s.exr := by
  unfold protect
  split
  · rw [requestPart_exr]
    exact sweepKept_closed.keeps_protectAll s idle
  · rfl

theorem handOn_exr_of_idle {s : State} (running : s.phase = .running) (idle : s.exr.step = none) :
    (handOn s).exr = s.exr := by
  rw [handOn_running s running, timing_exr, arbitrate_exr, protect_exr_of_idle idle]

/-- An event of normal running that ends with no step in flight leaves the Exerciser as the event made it. -/
theorem conclude_exr_of_idle (s0 : State) {s : State} (running : s.phase = .running) (idle : s.exr.step = none) :
    (conclude s0 s).exr = s.exr := (conclude_exr s0 s).trans (handOn_exr_of_idle running idle)

end Sys2Proof.Machine
end

section
/-! SUPPORT. A step time (O31, O59): what SKIPPED writes, and a state in which the judgement begins a step and nothing
acts on the step in flight. -/

namespace Sys2Proof.Machine

/-! ## A step time without a step (R123, R125, R128) -/

namespace Exerciser

/-- An advance moves the next port, the count, Enable and the step timer. -/
theorem advance_rest (e : Exerciser) : e.advance = { e with
    nextPort := e.nextPort + 1
    remaining := e.advance.remaining
    enable := e.advance.enable
    stepTimer := e.advance.stepTimer } := by
  unfold advance
  dsimp only
  split
  · rfl
  · split <;> rfl

theorem advance_of_continuous {e : Exerciser} (h : e.continuous = true) :
    e.advance = { e with nextPort := e.nextPort + 1 } := if_pos h

/-- An advance of a sweep of a count: the last step clears Enable and stops the step timer (R125). -/
theorem advance_of_counted {e : Exerciser} (h : e.continuous = false) : e.advance.remaining = e.remaining - 1 ∧
    e.advance.enable = (e.enable && decide (1 < e.remaining)) ∧
    e.advance.stepTimer = if 1 < e.remaining then e.stepTimer else none := by
  by_cases last : e.remaining ≤ 1
  · simp [advance, h, last, Nat.not_lt.2 last]
  · simp [advance, h, last, Nat.lt_of_not_le last]

/-- The Exerciser at a result, before the advance (R125). -/
def ended (e : Exerciser) (r : ExResult) (seconds : BitVec 32) : Exerciser :=
  (({ e with step := none }).write r seconds).startTimer

/-- Every result but PREEMPTED advances the sweep. -/
theorem finish_eq {r : ExResult} (h : r ≠ .preempted) (e : Exerciser) (seconds : BitVec 32) :
    e.finish r seconds = (e.ended r seconds).advance := if_neg h

theorem finish_step {r : ExResult} (h : r ≠ .preempted) (e : Exerciser) (seconds : BitVec 32) :
    (e.finish r seconds).step = none := by rw [finish_eq h, advance_rest]; rfl

theorem finish_nextPort {r : ExResult} (h : r ≠ .preempted) (e : Exerciser) (seconds : BitVec 32) :
    (e.finish r seconds).nextPort = e.nextPort + 1 := by rw [finish_eq h, advance_rest]; rfl

theorem finish_of_continuous {r : ExResult} (h : r ≠ .preempted) {e : Exerciser} (seconds : BitVec 32)
    (continuous : e.continuous = true) : (e.finish r seconds).remaining = e.remaining ∧
      (e.finish r seconds).enable = e.enable ∧
      (e.finish r seconds).stepTimer = if e.mode = .free then some 1000 else none := by
  rw [finish_eq h, advance_of_continuous (e := e.ended r seconds) continuous]
  exact ⟨rfl, rfl, rfl⟩

theorem finish_of_counted {r : ExResult} (h : r ≠ .preempted) {e : Exerciser} (seconds : BitVec 32)
    (counted : e.continuous = false) : (e.finish r seconds).remaining = e.remaining - 1 ∧
      (e.finish r seconds).enable = (e.enable && decide (1 < e.remaining)) ∧
      (e.finish r seconds).stepTimer = if e.mode = .free ∧ 1 < e.remaining then some 1000 else none := by
  obtain ⟨remaining, enable, stepTimer⟩ := advance_of_counted (e := e.ended r seconds) counted
  rw [finish_eq h]
  refine ⟨remaining, enable, stepTimer.trans ?_⟩
  change (if 1 < e.remaining then if e.mode = .free then some 1000 else none else none) = _
  by_cases last : 1 < e.remaining <;> simp [last]

/-- SKIPPED leaves the failure flag as it stands (R128). -/
theorem finish_skipped_result (e : Exerciser) (seconds : BitVec 32) :
    tget (e.finish .skipped seconds).results e.nextPort =
      { tget e.results e.nextPort with result := .skipped, seconds := seconds } := by
  rw [finish_eq (by decide), advance_rest]
  exact tget_tset_same _ _ _

theorem written_of_skipped {e e' : Exerciser} {seconds : BitVec 32} (h : e' = e.finish .skipped seconds) :
    tget e'.results e.nextPort = { tget e.results e.nextPort with result := .skipped, seconds := seconds } ∧
      e'.nextPort = e.nextPort + 1 := by
  rw [h]
  exact ⟨finish_skipped_result e seconds, finish_nextPort (by decide) e seconds⟩

end Exerciser

theorem judgeStep_of_unused {s : State} (unused : s.used s.exr.nextPort = false) : s.judgeStep = .skipped := by
  simp [State.judgeStep, unused]

theorem stepTime_of_unused {s : State} (unused : s.used s.exr.nextPort = false) :
    stepTime s = { s with exr := s.exr.finish .skipped s.freq.seconds } := by
  simp [stepTime, judgeStep_of_unused unused]

/-! ## What the claims read, over the frame of an event -/

theorem peerClaims_congr {s t : State} {n : Station} (own : t.own = s.own)
    (content : (t.peer n).content = (s.peer n).content) (quarantine : (t.peer n).quarantine = (s.peer n).quarantine) :
    t.peerClaims n = s.peerClaims n := by
  unfold State.peerClaims; rw [own, content, quarantine]

theorem peerView_congr {s t : State} (claims : ∀ n, t.peerClaims n = s.peerClaims n) (sp : Spare) :
    t.peerView sp = s.peerView sp := by
  unfold State.peerView; simp only [claims]

/-- A refresh supplies no claim and takes none away (R53). -/
theorem heardFrom_claims (s : State) (n m : Station) :
    (tget (s.heardFrom n).recs m).content = (s.peer m).content ∧
      (tget (s.heardFrom n).recs m).quarantine = (s.peer m).quarantine := by
  unfold State.heardFrom
  rw [tget_tset]
  split
  · next same => rw [same]; exact ⟨rfl, rfl⟩
  · exact ⟨rfl, rfl⟩

theorem peerView_of_viewOf_nil {s : State} {sp : Spare} (view : s.viewOf sp = []) : s.peerView sp = [] := by
  simp only [State.viewOf, List.append_eq_nil_iff] at view
  exact view.1.2

section

variable {s t : State} (f : EventFrame s t)
include f

theorem EventFrame.running (running : s.phase = .running) : t.phase = .running := by
  rcases f.phase with kept | ⟨readback, -⟩
  · exact kept.trans running
  · exact absurd (running.symm.trans readback) (by decide)

theorem EventFrame.used (p : Port) : t.used p = s.used p := by simp [State.used, f.config]

theorem EventFrame.inMap (p : Port) (sp : Spare) : t.inMap p sp = s.inMap p sp := by simp [State.inMap, f.config]

theorem EventFrame.cutOff : t.cutOff = s.cutOff := by simp [State.cutOff, f.peers]

theorem EventFrame.sf (p : Port) : t.sf p = s.sf p := by
  simp [State.sf, State.used, State.recv, State.timOf, State.decv, f.config, f.scan, f.dec]

theorem EventFrame.sd (p : Port) : t.sd p = s.sd p := by
  simp [State.sd, State.used, State.recv, f.config, f.scan]

theorem EventFrame.locallyUsable (sp : Spare) : t.locallyUsable sp = s.locallyUsable sp := by
  simp [State.locallyUsable, State.byLight, State.matched, State.recv, State.decv, f.scan, f.dec, f.spareLock]

theorem EventFrame.peerView (sp : Spare) : t.peerView sp = s.peerView sp :=
  peerView_congr (fun n => peerClaims_congr (by simp [State.own, f.straps]) (by simp [State.peer, f.peers])
    (by simp [State.peer, f.peers])) sp

/-- The request of a record follows from its own command and lockout, beside the frame (R69). -/
theorem EventFrame.standing {p : Port} (command : (t.prec p).command = (s.prec p).command)
    (lockout : (t.prec p).lockout = (s.prec p).lockout) : t.standing p = s.standing p := by
  simp [State.standing, command, lockout, f.sf, f.sd]

end

/-! ## An undisturbed exercise -/

/-- Nothing in the state acts on an exercise of the next port on the descriptor's spare (R123, R126, R127): every record is
IDLE and asks for nothing, the station is not cut off, the port is not locked out, the spare is usable for it, and no peer
and no demand claims the spare. -/
structure Undisturbed (s : State) : Prop where
  running : s.phase = .running
  heard : s.cutOff = false
  idle : ∀ q, (s.prec q).state = .idle
  claim : ∀ q, (s.prec q).claim = none
  standing : ∀ q, s.standing q = none
  lockout : (s.prec s.exr.nextPort).lockout = false
  usable : s.usableFor s.exr.nextPort s.exr.spare = true
  peers : s.peerView s.exr.spare = []
  demands : ∀ sp, tget s.prot.demands sp = none

/-- A state quiet but for the port under exercise, with that port idle too. -/
theorem QuietBut.undisturbed {s : State} (quiet : QuietBut s s.exr.nextPort)
    (idle : (s.prec s.exr.nextPort).state = .idle) (claim : (s.prec s.exr.nextPort).claim = none)
    (standing : s.standing s.exr.nextPort = none) (lockout : (s.prec s.exr.nextPort).lockout = false)
    (usable : s.usableFor s.exr.nextPort s.exr.spare = true) (peers : s.peerView s.exr.spare = []) :
    Undisturbed s := by
  have resting : ∀ q, (s.prec q).state = .idle ∧ (s.prec q).claim = none ∧ s.standing q = none := fun q => by
    by_cases h : q = s.exr.nextPort
    · rw [h]; exact ⟨idle, claim, standing⟩
    · exact quiet.idle q h
  obtain ⟨isolated, unheard⟩ := quiet.heard
  exact ⟨quiet.running, by simp [State.cutOff, isolated, unheard], fun q => (resting q).1, fun q => (resting q).2.1,
    fun q => (resting q).2.2, lockout, usable, peers, quiet.demands⟩

/-! ## The requests noted (R69) -/

/-- A record less its noted request. -/
def PortRec.unnoted (r : PortRec) : PortRec := { r with request := none }

theorem requestPart_demands (s t : State) : (requestPart s t).prot.demands = t.prot.demands := rfl

theorem requestPart_unnoted {s t : State} {q : Port} (h : (t.prec q).unnoted = (s.prec q).unnoted) :
    ((requestPart s t).prec q).unnoted = (s.prec q).unnoted := by
  have prec : (requestPart s t).prec q = { t.prec q with
      selection := (s.prec q).selection
      firstCause := (s.prec q).firstCause
      command := (s.prec q).command
      lockout := (s.prec q).lockout } := by rw [State.prec, requestPart]; exact tget_tab _ q
  rw [prec]
  exact congrArg (fun r : PortRec => { r with
    selection := (s.prec q).selection
    firstCause := (s.prec q).firstCause
    command := (s.prec q).command
    lockout := (s.prec q).lockout }) h

theorem foldl_field {α β : Type} (g : State → β) {f : State → α → State} (hf : ∀ s x, g (f s x) = g s) (l : List α)
    (s : State) : g (l.foldl f s) = g s := by
  induction l generalizing s with
  | nil => rfl
  | cons x xs ih => exact (ih (f s x)).trans (hf s x)

theorem noteRequests_exr (s : State) : (noteRequests s).exr = s.exr := by
  unfold noteRequests; rw [foldl_field State.exr]; exact fun u p => updRec_exr u p _

theorem noteRequests_demands (s : State) : (noteRequests s).prot.demands = s.prot.demands := by
  unfold noteRequests; rw [foldl_field fun u => u.prot.demands]; exact fun u p => updRec_demands u p _

/-- Nothing of a record is written but its request. -/
theorem noteRequests_unnoted (s : State) (q : Port) : ((noteRequests s).prec q).unnoted = (s.prec q).unnoted := by
  unfold noteRequests
  rw [foldl_field fun u => (u.prec q).unnoted]
  intro u p
  rw [updRec_prec]
  split <;> rfl

namespace Undisturbed

variable {s : State} (h : Undisturbed s)
include h

/-- The step itself, and the rest of the descriptor, may be written. -/
theorem withSweep {e : Exerciser} (nextPort : e.nextPort = s.exr.nextPort) (spare : e.spare = s.exr.spare) :
    Undisturbed { s with exr := e } where
  running := h.running
  heard := h.heard
  idle := h.idle
  claim := h.claim
  standing := h.standing
  lockout := by rw [nextPort]; exact h.lockout
  usable := by rw [nextPort, spare]; exact h.usable
  peers := by rw [spare]; exact h.peers
  demands := h.demands

theorem withLine (l : BayLine) : Undisturbed { s with line := l } :=
  ⟨h.running, h.heard, h.idle, h.claim, h.standing, h.lockout, h.usable, h.peers, h.demands⟩

/-- It holds after an event that moves no record but in the request noted, no pair and no sweep. -/
theorem over_frame {t : State} (f : EventFrame s t) (exr : t.exr = s.exr)
    (records : ∀ q, (t.prec q).unnoted = (s.prec q).unnoted) (pairs : ∀ q x, t.pair q x = s.pair q x)
    (demands : ∀ sp, tget t.prot.demands sp = none) : Undisturbed t where
  running := f.running h.running
  heard := f.cutOff.trans h.heard
  idle q := (congrArg PortRec.state (records q)).trans (h.idle q)
  claim q := (congrArg PortRec.claim (records q)).trans (h.claim q)
  standing q := (f.standing (congrArg PortRec.command (records q) :) (congrArg PortRec.lockout (records q) :)).trans
    (h.standing q)
  lockout := by rw [exr]; exact (congrArg PortRec.lockout (records _)).trans h.lockout
  usable := by rw [exr, State.usableFor, f.locallyUsable, pairs]; exact h.usable
  peers := by rw [exr, f.peerView]; exact h.peers
  demands := demands

/-! ### The view of the spare -/

theorem locallyUsable : s.locallyUsable s.exr.spare = true := by
  have usable := h.usable
  rw [State.usableFor, Bool.and_eq_true] at usable
  exact usable.1

theorem pair_good : (s.pair s.exr.nextPort s.exr.spare).failed = false := by
  have usable := h.usable
  rw [State.usableFor, Bool.and_eq_true, Bool.not_eq_true'] at usable
  exact usable.2

/-- The Exerciser's claim is all there is in the view of its spare. -/
theorem viewOf_eq : s.viewOf s.exr.spare = s.exerciseEntry s.exr.spare := by
  have records : (idx 16).flatMap (s.recordEntries s.exr.spare) = [] :=
    List.flatMap_eq_nil_iff.2 fun q _ => by simp [State.recordEntries, h.claim]
  have unlocked : s.lockEntry s.exr.spare = [] := by
    have usable := h.locallyUsable
    rw [State.locallyUsable, Bool.and_eq_true, Bool.not_eq_true'] at usable
    simp [State.lockEntry, usable.2]
  simp [State.viewOf, State.ownClaims, records, unlocked, h.peers, State.demandEntry, h.demands]

/-- An exercise claim does not rank above itself (R88, R95). -/
theorem not_preempted : s.preempted s.exr.spare s.exr.nextPort.val .exercise = false := by
  rw [State.preempted, h.viewOf_eq, State.exerciseEntry]
  split
  · split
    · simp [ViewEntry.outranks, State.ownEntry]
    · rfl
  · rfl

theorem judgeStep (idle : s.exr.step = none) (used : s.used s.exr.nextPort = true)
    (inMap : s.inMap s.exr.nextPort s.exr.spare = true) : s.judgeStep = .begun := by
  have view : s.viewOf s.exr.spare = [] := by rw [h.viewOf_eq, State.exerciseEntry, idle]
  simp [State.judgeStep, used, inMap, h.pair_good, h.idle, h.lockout, h.heard, h.locallyUsable, view]

/-! ### The end of an event -/

/-- The Protection Engine finds nothing to do but to note the requests. -/
theorem protectAll_eq : protectAll s = noteRequests (dropDemands s) := by
  have handled : (idx 16).foldl handleRequest s = s :=
    List.foldl_fixed' (fun q => by simp [handleRequest, requestIdle, h.idle, h.standing]) _
  have busy : stepPortBusy s = s := by
    unfold stepPortBusy
    split
    · rfl
    · exact if_pos ⟨h.idle _, h.lockout⟩
  have kept : (idx 16).foldl releaseRecord s = s :=
    List.foldl_fixed' (fun q => by simp [releaseRecord, h.claim]) _
  have goesOn : stepRelease s = s := by
    unfold stepRelease
    split
    · rfl
    · exact if_neg (by simp [State.stepCause, h.heard, h.not_preempted, h.usable])
  have nobody : s.requestOrder = [] := by simp [State.requestOrder, h.standing]
  rw [protectAll, handled, busy, releaseAll, kept, goesOn, chooseAll, nobody, List.foldl_nil]

theorem protect_eq : protect s = requestPart s (noteRequests (dropDemands s)) := by
  rw [protect, if_pos (by simp [State.running, h.running]), h.protectAll_eq]

theorem exr_protect : (protect s).exr = s.exr := by
  rw [h.protect_eq, requestPart_exr, noteRequests_exr]; rfl

theorem demands_protect : (protect s).prot.demands = tconst 4 none := by
  rw [h.protect_eq, requestPart_demands, noteRequests_demands]; rfl

theorem unnoted_protect (q : Port) : ((protect s).prec q).unnoted = (s.prec q).unnoted := by
  rw [h.protect_eq]
  exact requestPart_unnoted (noteRequests_unnoted (dropDemands s) q)

theorem exr_handOn : (handOn s).exr = s.exr := by
  rw [handOn_running s h.running, timing_exr, arbitrate_exr, h.exr_protect]

/-- The end of an event leaves the state undisturbed. -/
theorem over_handOn : Undisturbed (handOn s) := by
  have prot : (handOn s).prot = (protect s).prot := by
    rw [handOn_running s h.running, timing_prot, arbitrate_prot]
  refine h.over_frame (handOn_frame s) h.exr_handOn (fun q => ?_) (fun q x => ?_) fun sp => ?_
  · rw [State.prec, prot]; exact h.unnoted_protect q
  · rw [handOn_running s h.running, State.pair, State.dport, timing_drv, ← State.dport, arbitrate_dport,
      (protect_dport s q).1]
    rfl
  · rw [prot, h.demands_protect, tget_tconst]

theorem exr_conclude (s0 : State) : (conclude s0 s).exr = s.exr := (conclude_exr s0 s).trans h.exr_handOn

/-! ### The arrival of a request -/

theorem refreshed (src : Station) : refresh (lineQuiet s) src =
    { s with peers := s.heardFrom src, line := s.lineAfter s.line.responses } := by
  have isolated : (lineQuiet s).peers.isolated = false := (Bool.or_eq_false_iff.1 h.heard).1
  rw [refresh, isolated]
  rfl

theorem over_refresh (src : Station) : Undisturbed (refresh (lineQuiet s) src) := by
  rw [h.refreshed src]
  have view : ∀ sp, { s with peers := s.heardFrom src, line := s.lineAfter s.line.responses }.peerView sp =
      s.peerView sp := peerView_congr fun n =>
    peerClaims_congr rfl (heardFrom_claims s src n).1 (heardFrom_claims s src n).2
  exact ⟨h.running, (Bool.or_eq_false_iff.1 h.heard).2, h.idle, h.claim, h.standing, h.lockout, h.usable,
    (view _).trans h.peers, h.demands⟩

theorem over_received (src : Station) : Undisturbed (s.received src) := (h.over_refresh src).over_handOn

theorem exr_received (src : Station) : (s.received src).exr = s.exr := by
  rw [State.received, (h.over_refresh src).exr_handOn, h.refreshed src]

end Undisturbed

end Sys2Proof.Machine
end

section
/-! SUPPORT. The step timer (O31): a step time skips an unused port or begins a step. -/

namespace Sys2Proof.Machine

/-- The claim window of a step just begun (R124). -/
def Step.begun : Step := ⟨.window, some false, some 8, false, none⟩

/-- The state with a step just begun, before its announce is asked for. -/
def State.stepBegun (s : State) : State := { s with exr := { s.exr with step := some Step.begun } }

theorem stepTime_of_begun {s : State} (h : s.judgeStep = .begun) : stepTime s = requestTrigger s.stepBegun := by
  unfold stepTime; rw [h]; rfl

theorem Undisturbed.stepBegun {s : State} (h : Undisturbed s) : Undisturbed s.stepBegun :=
  h.withSweep (e := { s.exr with step := some Step.begun }) rfl rfl

/-- The protection part of the beginning writes the step, and the line by its trigger. -/
theorem protectionPart_stepBegun (s : State) : protectionPart s (requestTrigger s.stepBegun) =
    { s.stepBegun with line := trigPart s (requestTrigger s.stepBegun) } := by
  rw [requestTrigger]; split <;> rfl

/-- The state with the step timer stopped by its expiry (R122). -/
def State.timerStopped (s : State) : State := { s with exr := { s.exr with stepTimer := none } }

theorem stepTimerExpiry_of_due {s : State} (due : s.exr.stepTimer = some 0) (enable : s.exr.enable = true)
    (idle : s.exr.step = none) : exec .stepTimerExpiry s =
      .next (conclude s (protectionPart s.timerStopped (stepTime s.timerStopped))) := by
  refine (ite_ranOut_of_eq due _ _).trans ?_
  simp [enable, idle, State.timerStopped]

/-- What a step time changes is within the frame of an event. -/
theorem stepTimerExpiry_frame (s : State) :
    EventFrame s (conclude s (protectionPart s.timerStopped (stepTime s.timerStopped))) :=
  have stopped : EventFrame s s.timerStopped := { EventFrame.refl s with }
  stopped.trans <| (protectionPart_frame _ _).trans (conclude_frame s _)

/-- A step time at an unused port ends with the result SKIPPED (R123), and the end of its event leaves it so. -/
theorem skipped_exr (s0 : State) {s : State} (running : s.phase = .running) (unused : s.used s.exr.nextPort = false) :
    (conclude s0 (protectionPart s (stepTime s))).exr = s.exr.finish .skipped s.freq.seconds := by
  have result : (protectionPart s (stepTime s)).exr = s.exr.finish .skipped s.freq.seconds := by
    rw [protectionPart_exr, stepTime_of_unused unused]
  have idle : (protectionPart s (stepTime s)).exr.step = none := by
    rw [result]; exact Exerciser.finish_step (by decide) _ _
  rw [conclude_exr_of_idle s0 ((protectionPart_phase s _).trans running) idle, result]

/-- A step time at which the judgement begins a step leaves it in its claim window, with an announce asked for (R124). -/
theorem begun_exr (s0 : State) {s : State} (h : Undisturbed s) (idle : s.exr.step = none)
    (used : s.used s.exr.nextPort = true) (inMap : s.inMap s.exr.nextPort s.exr.spare = true) :
    (conclude s0 (protectionPart s (stepTime s))).exr = { s.exr with step := some Step.begun } ∧
      (conclude s0 (protectionPart s (stepTime s))).line.trigger = true := by
  have undisturbed : Undisturbed (protectionPart s (requestTrigger s.stepBegun)) := by
    rw [protectionPart_stepBegun]; exact h.stepBegun.withLine _
  rw [stepTime_of_begun (h.judgeStep idle used inMap)]
  refine ⟨?_, (conclude_keepsTrigger s0 undisturbed.running).trigger ?_⟩
  · rw [undisturbed.exr_conclude, protectionPart_stepBegun]; rfl
  · exact requestTrigger_trigger h.stepBegun.running

/-- Settles O31: a step time by its judgement, which is SKIPPED for an unused port and begins a step where nothing stands
against it. -/
theorem stepTimerBeginsAStepOrSkips : Obligations.StepTimerBeginsAStepOrSkips := by
  intro s
  refine ⟨fun left => ite_ranOut_of_ne left _ _, fun running due enable idle => ⟨fun unused => ?_, ?_⟩⟩
  · have skipped := skipped_exr s (s := s.timerStopped) running unused
    have ne : ExResult.skipped ≠ .preempted := by decide
    refine ⟨_, stepTimerExpiry_of_due due enable idle, ?_⟩
    obtain ⟨result, nextPort⟩ := Exerciser.written_of_skipped skipped
    refine ⟨result, nextPort, (congrArg Exerciser.step skipped).trans (Exerciser.finish_step ne _ _),
      fun continuous => ?_, fun counted => ?_, stepTimerExpiry_frame s⟩
    · rw [skipped]
      obtain ⟨remaining, enable', stepTimer⟩ :=
        Exerciser.finish_of_continuous (e := s.timerStopped.exr) ne s.freq.seconds continuous
      exact ⟨remaining, enable'.trans enable, stepTimer⟩
    · rw [skipped]
      obtain ⟨remaining, enable', stepTimer⟩ :=
        Exerciser.finish_of_counted (e := s.timerStopped.exr) ne s.freq.seconds counted
      exact ⟨remaining, enable'.trans (by simp [State.timerStopped, enable]), stepTimer⟩
  · intro quiet portIdle claim standing lockout used inMap usable view
    have undisturbed : Undisturbed s.timerStopped := (quiet.undisturbed portIdle claim standing lockout usable
      (peerView_of_viewOf_nil view)).withSweep rfl rfl
    obtain ⟨exr, trigger⟩ := begun_exr s undisturbed idle used inMap
    exact ⟨_, stepTimerExpiry_of_due due enable idle, exr, trigger, stepTimerExpiry_frame s⟩

end Sys2Proof.Machine
end

section
/-! SUPPORT. SWP (O59): the three actions on the state the handler finds, and the Exerciser after the event. -/

namespace Sys2Proof.Machine

/-! ## The parameters (R181) -/

theorem boolOf_byte (b : Bool) : boolOf (byte b.toNat) = some b := by cases b <;> rfl

/-- The mode that SWP START's mode byte gives. -/
def Mode.ofBit (free : Bool) : Mode := if free then .free else .paced

theorem modeOf_byte (free : Bool) : modeOf (byte free.toNat) = some (Mode.ofBit free) := by
  rw [modeOf, boolOf_byte]; rfl

/-- The first-port byte of SWP START: 255 for none. -/
def firstByte (first : Option Port) : Byte := byte ((first.map (·.val)).getD 255)

theorem optOf_firstByte (first : Option Port) : optOf 16 (firstByte first) = some first := by
  cases first with
  | none => rfl
  | some p =>
    have small : (byte p.val).toNat = p.val := toNat_byte (by omega)
    have named : (firstByte (some p)).toNat ≠ 255 := by
      change (byte p.val).toNat ≠ 255
      omega
    rw [optOf, if_neg named]
    exact congrArg (Option.map some) (finOf_byte (by decide) p)

theorem parse_swpStart (sp : Spare) (free : Bool) (n : Fin 17) (continuous : Bool) (first : Option Port) :
    parse [15, 1, byte sp.val, byte free.toNat, byte n.val, byte continuous.toNat, firstByte first] =
      some (.swpStart sp (.ofBit free) n.val continuous first) := by
  change swpStartOf _ _ _ _ _ = _
  simp [swpStartOf, finOf_byte (n := 4) (by decide), finOf_byte (n := 17) (by decide), modeOf_byte, boolOf_byte,
    optOf_firstByte]

theorem parse_swpStep : parse [15, 2, 0, 0, 0, 0, 0] = some .swpStep := rfl

theorem parse_swpStop : parse [15, 3, 0, 0, 0, 0, 0] = some .swpStop := rfl

/-! ## The effects stay within the frame -/

theorem sweepStart_frame (s : State) (sp : Spare) (m : Mode) (n : Nat) (k : Bool) (first : Option Port) :
    EventFrame s (sweepStart s sp m n k first) := by
  unfold sweepStart
  dsimp only
  split
  · exact EventFrame.trans { EventFrame.refl s with } (protectionPart_frame _ _)
  · exact { EventFrame.refl s with }

/-- The state with Enable clear and the step timer stopped (R121). -/
def State.sweepDisabled (s : State) : State := { s with exr := { s.exr with enable := false, stepTimer := none } }

theorem sweepStop_frame (s : State) : EventFrame s (sweepStop s) := by
  have disabled : EventFrame s s.sweepDisabled := { EventFrame.refl s with }
  unfold sweepStop
  dsimp only
  split
  · exact disabled
  · split
    · exact disabled.trans (protectionPart_frame _ _)
    · exact disabled

/-! ## The Exerciser over a request -/

theorem received_exr_of_idle {s : State} (src : Station) (running : s.phase = .running) (idle : s.exr.step = none) :
    (s.received src).exr = s.exr := by
  have written : (refresh (lineQuiet s) src).exr = s.exr := triggerIf_exr _ _
  have phase : (refresh (lineQuiet s) src).phase = s.phase := triggerIf_phase _ _
  rw [State.received, handOn_exr_of_idle (phase.trans running) (by rw [written, idle]), written]

@[simp] theorem received_used (s : State) (src : Station) (p : Port) : (s.received src).used p = s.used p := by
  rw [(received_frame s src).used]; rfl

@[simp] theorem received_seconds (s : State) (src : Station) : (s.received src).freq.seconds = s.freq.seconds :=
  (received_frame s src).seconds

section

variable {s : State} {src : Station} {tgt : BitVec 6} (h : Takes s src tgt) {code : Byte} {params : List Byte} {r : Request}
include h

/-- A refused request leaves an Exerciser without a step as it was. -/
theorem Takes.refused_exr {x : Result} (idle : s.exr.step = none) (parsed : parse (code :: params) = some r)
    (refusal : (s.received src).refusal r = some x) : (requestArrives s src tgt (code :: params)).exr = s.exr := by
  have found := received_exr_of_idle src h.running idle
  rw [h.arrives_eq parsed, takeValid, refusal]
  exact (conclude_exr_of_idle s (received_running src h.running) (by rw [found, idle])).trans found

/-- An executed request leaves the Exerciser as its effect did. -/
theorem Takes.done_exr (parsed : parse (code :: params) = some r) (accepted : (s.received src).refusal r = none) :
    (requestArrives s src tgt (code :: params)).exr = (s.executed src r).exr := by
  rw [h.done parsed accepted]; rfl

theorem Takes.executed_exr_of_idle (within : EventFrame (s.received src) (requestEffect (s.received src) r))
    (idle : (requestEffect (s.received src) r).exr.step = none) :
    (s.executed src r).exr = (requestEffect (s.received src) r).exr :=
  conclude_exr_of_idle s (within.running (received_running src h.running)) idle

/-- The answer of a request whose effect is within the frame of an event. -/
theorem Takes.done_answered (parsed : parse (code :: params) = some r)
    (accepted : (s.received src).refusal r = none)
    (within : EventFrame (s.received src) (requestEffect (s.received src) r)) :
    Answered s s (requestArrives s src tgt (code :: params)) src
      (code :: 0 :: requestData (s.received src) (s.executed src r) r) := by
  rw [h.done parsed accepted]
  exact answered_done _ ((received_frame s src).trans within)

end

/-! ## START (R120, R122) -/

/-- The descriptor as START sets it (R120). -/
def Exerciser.set (e : Exerciser) (sp : Spare) (mode : Mode) (count : Nat) (continuous : Bool) (first : Option Port) :
    Exerciser :=
  { e with
    spare := sp
    mode := mode
    continuous := continuous
    remaining := if count = 0 then 16 else count
    nextPort := first.getD e.nextPort
    enable := true
    stepTimer := none }

theorem sweepStart_paced (s : State) (sp : Spare) (n : Nat) (k : Bool) (first : Option Port) :
    sweepStart s sp .paced n k first = { s with exr := s.exr.set sp .paced n k first } := rfl

theorem sweepStart_free (s : State) (sp : Spare) (n : Nat) (k : Bool) (first : Option Port) :
    sweepStart s sp .free n k first = protectionPart { s with exr := s.exr.set sp .free n k first }
      (stepTime { s with exr := s.exr.set sp .free n k first }) := rfl

theorem sweepStart_free_skips (s0 : State) {s : State} (running : s.phase = .running) (sp : Spare) (n : Nat) (k : Bool)
    {first : Option Port} (unused : s.used (first.getD s.exr.nextPort) = false) :
    (conclude s0 (sweepStart s sp .free n k first)).exr =
      (s.exr.set sp .free n k first).finish .skipped s.freq.seconds := by
  rw [sweepStart_free]
  exact skipped_exr s0 (s := { s with exr := s.exr.set sp .free n k first }) running unused

section

variable {s : State} {src : Station} {tgt : BitVec 6} (h : Takes s src tgt)
include h

theorem Takes.start_accepted (idle : s.exr.step = none) (clear : s.exr.enable = false) (sp : Spare) (mode : Mode)
    (n : Nat) (k : Bool) (first : Option Port) :
    (s.received src).refusal (.swpStart sp mode n k first) = none := by
  simp [State.refusal, received_exr_of_idle src h.running idle, idle, clear]

theorem Takes.start_busy (idle : s.exr.step = none) (enable : s.exr.enable = true) (sp : Spare) (free : Bool)
    (n : Fin 17) (k : Bool) (first : Option Port) :
    let t := requestArrives s src tgt
      [15, 1, byte sp.val, byte free.toNat, byte n.val, byte k.toNat, firstByte first]
    Answered s s t src [15, 1] ∧ t.exr = s.exr := by
  have parsed := parse_swpStart sp free n k first
  have busy : (s.received src).refusal (.swpStart sp (.ofBit free) n.val k first) = some .busy := by
    simp [State.refusal, received_exr_of_idle src h.running idle, enable]
  exact ⟨h.refused parsed busy, h.refused_exr idle parsed busy⟩

theorem Takes.start_paced (idle : s.exr.step = none) (clear : s.exr.enable = false) (sp : Spare) (n : Fin 17)
    (k : Bool) (first : Option Port) :
    let t := requestArrives s src tgt [15, 1, byte sp.val, 0, byte n.val, byte k.toNat, firstByte first]
    Answered s s t src [15, 0] ∧ t.exr = s.exr.set sp .paced n.val k first := by
  have parsed := parse_swpStart sp false n k first
  have accepted := h.start_accepted idle clear sp .paced n.val k first
  have within := sweepStart_frame (s.received src) sp .paced n.val k first
  have found := received_exr_of_idle src h.running idle
  have effect : (sweepStart (s.received src) sp .paced n.val k first).exr = s.exr.set sp .paced n.val k first := by
    rw [sweepStart_paced, found]
  refine ⟨h.done_answered parsed accepted within, (h.done_exr parsed accepted).trans ?_⟩
  exact (h.executed_exr_of_idle (r := .swpStart sp .paced n.val k first) within
    ((congrArg Exerciser.step effect).trans idle)).trans effect

/-- In FREE mode the first step time is the arrival itself (R122). -/
theorem Takes.start_free_skips (idle : s.exr.step = none) (clear : s.exr.enable = false) (sp : Spare) (n : Fin 17)
    (k : Bool) (first : Option Port) (unused : s.used (first.getD s.exr.nextPort) = false) :
    let t := requestArrives s src tgt [15, 1, byte sp.val, 1, byte n.val, byte k.toNat, firstByte first]
    Answered s s t src [15, 0] ∧ t.exr = (s.exr.set sp .free n.val k first).finish .skipped s.freq.seconds := by
  have parsed := parse_swpStart sp true n k first
  have accepted := h.start_accepted idle clear sp .free n.val k first
  have within := sweepStart_frame (s.received src) sp .free n.val k first
  refine ⟨h.done_answered parsed accepted within, (h.done_exr parsed accepted).trans ?_⟩
  have found := received_exr_of_idle src h.running idle
  have unused' : (s.received src).used (first.getD (s.received src).exr.nextPort) = false := by
    rw [found, received_used, unused]
  exact (sweepStart_free_skips s (received_running src h.running) sp n.val k unused').trans
    (by rw [found, received_seconds])

/-! ## STEP (R122, R123) -/

theorem Takes.step_refused (idle : s.exr.step = none) (barred : s.exr.enable = false ∨ s.exr.mode = .free) :
    let t := requestArrives s src tgt [15, 2, 0, 0, 0, 0, 0]
    Answered s s t src [15, 3] ∧ t.exr = s.exr := by
  have refusal : (s.received src).refusal .swpStep = some .state := by
    simp [State.refusal, received_exr_of_idle src h.running idle, barred]
  exact ⟨h.refused parse_swpStep refusal, h.refused_exr idle parse_swpStep refusal⟩

theorem Takes.step_accepted (idle : s.exr.step = none) (enable : s.exr.enable = true) (paced : s.exr.mode = .paced) :
    (s.received src).refusal .swpStep = none := by
  simp [State.refusal, received_exr_of_idle src h.running idle, idle, enable, paced]

/-- The answer names the outcome of the judgement and the port judged (R196). -/
theorem Takes.step_answered (idle : s.exr.step = none) (enable : s.exr.enable = true) (paced : s.exr.mode = .paced)
    {x : StepOutcome} (judged : (s.received src).judgeStep = x) :
    Answered s s (requestArrives s src tgt [15, 2, 0, 0, 0, 0, 0]) src
      [15, 0, byte x.code, byte s.exr.nextPort.val] := by
  have data : requestData (s.received src) (s.executed src .swpStep) .swpStep =
      [byte x.code, byte s.exr.nextPort.val] := by
    rw [requestData, judged, received_exr_of_idle src h.running idle]; rfl
  rw [← data]
  exact h.done_answered parse_swpStep (h.step_accepted idle enable paced) (protectionPart_frame _ _)

theorem Takes.step_skips (idle : s.exr.step = none) (enable : s.exr.enable = true) (paced : s.exr.mode = .paced)
    (unused : s.used s.exr.nextPort = false) :
    let t := requestArrives s src tgt [15, 2, 0, 0, 0, 0, 0]
    Answered s s t src [15, 0, 3, byte s.exr.nextPort.val] ∧ t.exr = s.exr.finish .skipped s.freq.seconds := by
  have found := received_exr_of_idle src h.running idle
  have unused' : (s.received src).used (s.received src).exr.nextPort = false := by rw [found, received_used, unused]
  refine ⟨h.step_answered idle enable paced (judgeStep_of_unused unused'), ?_⟩
  rw [h.done_exr parse_swpStep (h.step_accepted idle enable paced)]
  exact (skipped_exr s (received_running src h.running) unused').trans (by rw [found, received_seconds])

theorem Takes.step_begins (enable : s.exr.enable = true) (paced : s.exr.mode = .paced) (idle : s.exr.step = none)
    (undisturbed : Undisturbed s) (used : s.used s.exr.nextPort = true)
    (inMap : s.inMap s.exr.nextPort s.exr.spare = true) :
    let t := requestArrives s src tgt [15, 2, 0, 0, 0, 0, 0]
    Answered s s t src [15, 0, 1, byte s.exr.nextPort.val] ∧
      t.exr = { s.exr with step := some Step.begun } ∧ t.line.trigger = true := by
  have found := undisturbed.exr_received src
  have waits := undisturbed.over_received src
  have idle' : (s.received src).exr.step = none := by rw [found, idle]
  have used' : (s.received src).used (s.received src).exr.nextPort = true := by rw [found, received_used, used]
  have inMap' : (s.received src).inMap (s.received src).exr.nextPort (s.received src).exr.spare = true := by
    rw [found, (received_frame s src).inMap]; exact inMap
  obtain ⟨exr, trigger⟩ := begun_exr s waits idle' used' inMap'
  refine ⟨h.step_answered idle enable paced (waits.judgeStep idle' used' inMap'), ?_, ?_⟩
  · rw [h.done_exr parse_swpStep (h.step_accepted idle enable paced)]
    exact exr.trans (by rw [found])
  · rw [h.done parse_swpStep (h.step_accepted idle enable paced)]
    exact trigger

end

/-! ## STOP (R121) -/

theorem sweepStop_of_idle {s : State} (idle : s.exr.step = none) : sweepStop s = s.sweepDisabled := by
  simp [sweepStop, State.sweepDisabled, idle]

@[simp] theorem removeEntry_exr (s : State) (p : Port) (m : Maker) : (removeEntry s p m).exr = s.exr := by
  unfold removeEntry putQueue; split
  · rfl
  · split <;> rfl

@[simp] theorem removeEntry_phase (s : State) (p : Port) (m : Maker) : (removeEntry s p m).phase = s.phase := by
  unfold removeEntry putQueue; split
  · rfl
  · split <;> rfl

/-- The state with the step abandoned: its entry, if any, removed, without result or advance (R121). -/
def State.stepAbandoned (s : State) : State :=
  { removeEntry s s.exr.nextPort .exerciser with exr := { s.exr with step := none } }

/-- A step in its claim window is abandoned, and its claim's end asked to be announced. -/
theorem sweepStop_of_window {s : State} {w : Option Nat} {f : Bool} {e : Option ExResult}
    (window : s.exr.step = some ⟨.window, some false, w, f, e⟩) :
    sweepStop s = protectionPart s.sweepDisabled (requestTrigger s.sweepDisabled.stepAbandoned) := by
  simp [sweepStop, window, State.stepUnmoved, triggerIf, State.sweepDisabled, State.stepAbandoned]

theorem stepAbandoned_phase (s : State) : s.stepAbandoned.phase = s.phase := removeEntry_phase s _ _

section

variable {s : State} {src : Station} {tgt : BitVec 6} (h : Takes s src tgt)
include h

theorem Takes.stop_answered :
    Answered s s (requestArrives s src tgt [15, 3, 0, 0, 0, 0, 0]) src [15, 0] :=
  h.done_answered parse_swpStop rfl (sweepStop_frame _)

theorem Takes.stop_idle (idle : s.exr.step = none) :
    (requestArrives s src tgt [15, 3, 0, 0, 0, 0, 0]).exr = { s.exr with enable := false, stepTimer := none } := by
  have found := received_exr_of_idle src h.running idle
  have effect : (sweepStop (s.received src)).exr = { s.exr with enable := false, stepTimer := none } := by
    rw [sweepStop_of_idle (by rw [found, idle]), State.sweepDisabled, found]
  have kept := h.executed_exr_of_idle (r := .swpStop) (sweepStop_frame _) ((congrArg Exerciser.step effect).trans idle)
  exact (h.done_exr parse_swpStop rfl).trans (kept.trans effect)

theorem Takes.stop_window {w : Option Nat} {f : Bool} {e : Option ExResult} (undisturbed : Undisturbed s)
    (window : s.exr.step = some ⟨.window, some false, w, f, e⟩) :
    let t := requestArrives s src tgt [15, 3, 0, 0, 0, 0, 0]
    t.exr = { s.exr with enable := false, stepTimer := none, step := none } ∧ t.line.trigger = true := by
  have found := undisturbed.exr_received src
  have running := received_running src h.running
  have stops := sweepStop_of_window (s := s.received src) (by rw [found, window])
  have exr : (sweepStop (s.received src)).exr = { s.exr with enable := false, stepTimer := none, step := none } := by
    rw [stops, protectionPart_exr, requestTrigger_exr, State.stepAbandoned, State.sweepDisabled, found]
  have trigger : (sweepStop (s.received src)).line.trigger = true := by
    rw [stops]
    exact requestTrigger_trigger ((stepAbandoned_phase _).trans running)
  have kept := h.executed_exr_of_idle (r := .swpStop) (sweepStop_frame _) (congrArg Exerciser.step exr)
  refine ⟨(h.done_exr parse_swpStop rfl).trans (kept.trans exr), ?_⟩
  rw [h.done parse_swpStop rfl]
  exact (conclude_keepsTrigger s ((sweepStop_frame _).running running)).trigger trigger

end

/-- Settles O59: each action by the state the handler finds, which has the Exerciser of the state before, and by the
event's end, which keeps what the action left. -/
theorem sweepRequestsSetAndStepTheDescriptor : Obligations.SweepRequestsSetAndStepTheDescriptor := by
  intro src tgt s h
  refine ⟨fun idle sp n k first => ⟨fun enable free => ⟨_, rfl, h.start_busy idle enable sp free n k first⟩,
      fun clear => ⟨_, rfl, h.start_paced idle clear sp n k first⟩, fun clear unused => ?_⟩,
    fun idle barred => ⟨_, rfl, h.step_refused idle barred⟩, fun idle enable paced unused => ?_,
    fun enable paced quiet portIdle claim standing lockout used inMap usable view => ?_,
    fun idle => ⟨_, rfl, h.stop_answered, h.stop_idle idle⟩,
    fun w f e window quiet portIdle claim standing lockout usable peers => ?_⟩
  · obtain ⟨answered, exr⟩ := h.start_free_skips idle clear sp n k first unused
    exact ⟨_, rfl, answered, Exerciser.written_of_skipped exr⟩
  · obtain ⟨answered, exr⟩ := h.step_skips idle enable paced unused
    exact ⟨_, rfl, answered, Exerciser.written_of_skipped exr⟩
  · have peers := peerView_of_viewOf_nil view
    have undisturbed := quiet.undisturbed portIdle claim standing lockout usable peers
    exact ⟨_, rfl, h.step_begins enable paced quiet.step undisturbed used inMap⟩
  · have without : Undisturbed { s with exr := { s.exr with step := none } } :=
      QuietBut.undisturbed quiet portIdle claim standing lockout usable peers
    have undisturbed : Undisturbed s := without.withSweep (e := s.exr) rfl rfl
    exact ⟨_, rfl, h.stop_answered, h.stop_window undisturbed window⟩

end Sys2Proof.Machine
end
section
/-! SUPPORT. What the references are judged from (R131–R133), and what the timing blocks make of it at an event's end:
the signal fails judged, the selection, the timing state and the announced values (R134, R139, R142, R143, R151). -/

namespace Sys2Proof.Machine

/-! ## What signal fails and QLs are judged from -/

/-- `t` has all that the causes of a signal fail and the QLs in use are read from as in `s` (R131–R133). The default
proofs are those of a `t` that leaves it untouched. -/
structure SameSources (s t : State) : Prop where
  config : t.config = s.config := by exact rfl
  straps : t.straps = s.straps := by exact rfl
  recvs : t.scan.recvs = s.scan.recvs := by exact rfl
  dec : t.dec = s.dec := by exact rfl
  isolated : t.peers.isolated = s.peers.isolated := by exact rfl
  upstream : t.upstream = s.upstream := by exact rfl
  selection : ∀ p, (t.prec p).selection = (s.prec p).selection := by exact fun _ => rfl
  noEdges : ∀ c, (t.cand c).noEdges = (s.cand c).noEdges := by exact fun _ => rfl

theorem SameSources.trans {s t u : State} (h : SameSources s t) (g : SameSources t u) : SameSources s u where
  config := g.config.trans h.config
  straps := g.straps.trans h.straps
  recvs := g.recvs.trans h.recvs
  dec := g.dec.trans h.dec
  isolated := g.isolated.trans h.isolated
  upstream := g.upstream.trans h.upstream
  selection p := (g.selection p).trans (h.selection p)
  noEdges c := (g.noEdges c).trans (h.noEdges c)

section

variable {s t : State} (h : SameSources s t)
include h

theorem SameSources.sf (p : Port) : t.sf p = s.sf p := by
  simp [State.sf, State.used, State.recv, State.timOf, State.decv, h.config, h.recvs, h.dec]

theorem SameSources.sourceFails (c : Cand) : t.sourceFails c = s.sourceFails c := by
  simp only [State.sourceFails, State.nominee, State.recv, h.config, h.recvs, h.selection, h.sf]

theorem SameSources.bayCauses : t.bayCauses = s.bayCauses := by
  have own : t.own = s.own := by simp [State.own, h.straps]
  simp only [State.bayCauses, own, h.isolated, h.upstream, h.noEdges]

theorem SameSources.fails (c : Cand) : t.fails c = s.fails c := by
  simp only [State.fails, State.failCauses, h.bayCauses, h.sourceFails, h.noEdges]

end

theorem upstream_congr {s t : State} (config : t.config = s.config)
    (peer : ∀ n, (t.peer n).present = (s.peer n).present ∧ (t.peer n).content = (s.peer n).content) :
    t.upstream = s.upstream := by
  unfold State.upstream
  rw [config]
  cases s.config.upstream with
  | none => rfl
  | some n => obtain ⟨present, content⟩ := peer n; simp only [present, content]

theorem EventFrame.upstream {s t : State} (f : EventFrame s t) : t.upstream = s.upstream :=
  upstream_congr f.config fun n => by rw [State.peer, State.peer, f.peers]; exact ⟨rfl, rfl⟩

/-- An event's end changes of the sources only what it does to selections and edges. -/
theorem EventFrame.sameSources {s t : State} (f : EventFrame s t)
    (selection : ∀ p, (t.prec p).selection = (s.prec p).selection)
    (noEdges : ∀ c, (t.cand c).noEdges = (s.cand c).noEdges) : SameSources s t where
  config := f.config
  straps := f.straps
  recvs := by rw [f.scan]
  dec := f.dec
  isolated := by rw [f.peers]
  upstream := f.upstream
  selection := selection
  noEdges := noEdges

/-! ## A candidate judged (R134, R141, R150) -/

theorem CandRec.judged_of_eq {r : CandRec} {fail : Bool} (h : r.sigFail = fail) : r.judged fail = r := if_pos h

theorem CandRec.judged_sigFail (r : CandRec) (fail : Bool) : (r.judged fail).sigFail = fail := by
  unfold CandRec.judged
  split
  · assumption
  · cases fail <;> rfl

/-- A judgement leaves d, the hit mark and the edge test as they are. -/
theorem CandRec.judged_rest (r : CandRec) (fail : Bool) : (r.judged fail).d = r.d ∧ (r.judged fail).hit = r.hit ∧
    (r.judged fail).noEdges = r.noEdges := by
  unfold CandRec.judged
  split
  · exact ⟨rfl, rfl, rfl⟩
  · cases fail <;> exact ⟨rfl, rfl, rfl⟩

/-- A lockout is neither made nor ended by a signal fail (R141). -/
theorem CandRec.judged_lockedout (r : CandRec) (fail : Bool) :
    (r.judged fail).state = .lockedout ↔ r.state = .lockedout := by
  unfold CandRec.judged
  split
  · rfl
  · cases fail <;> cases r.state <;> simp

theorem CandRec.judged_unused (r : CandRec) (fail : Bool) :
    (r.judged fail).state = .unused ↔ r.state = .unused := by
  unfold CandRec.judged
  split
  · rfl
  · cases fail <;> cases r.state <;> simp

/-- A candidate as the end of an event judges it. -/
def State.judgedCand (s : State) (c : Cand) : CandRec :=
  if (s.cand c).state = .unused then s.cand c else (s.cand c).judged (s.fails c)

theorem judgeFails_cand (s : State) (c : Cand) : (judgeFails s).cand c = s.judgedCand c := tget_tab _ c

theorem judgedCand_of_used {s : State} {c : Cand} (used : (s.cand c).state ≠ .unused) :
    s.judgedCand c = (s.cand c).judged (s.fails c) := if_neg used

theorem judgedCand_of_agrees {s : State} {c : Cand}
    (h : (s.cand c).state = .unused ∨ (s.cand c).sigFail = s.fails c) : s.judgedCand c = s.cand c := by
  unfold State.judgedCand
  split
  · rfl
  · next used => exact CandRec.judged_of_eq (h.resolve_left used)

theorem judgedCand_rest (s : State) (c : Cand) : (s.judgedCand c).d = (s.cand c).d ∧
    (s.judgedCand c).hit = (s.cand c).hit ∧ (s.judgedCand c).noEdges = (s.cand c).noEdges := by
  unfold State.judgedCand
  split
  · exact ⟨rfl, rfl, rfl⟩
  · exact CandRec.judged_rest _ _

theorem judgedCand_unused (s : State) (c : Cand) :
    (s.judgedCand c).state = .unused ↔ (s.cand c).state = .unused := by
  unfold State.judgedCand
  split
  · rfl
  · exact CandRec.judged_unused _ _

theorem judgedCand_lockedout (s : State) (c : Cand) :
    (s.judgedCand c).state = .lockedout ↔ (s.cand c).state = .lockedout := by
  unfold State.judgedCand
  split
  · rfl
  · exact CandRec.judged_lockedout _ _

/-- The judgement agrees with the causes it was made from. -/
theorem judgedCand_agrees (s : State) (c : Cand) :
    (s.judgedCand c).state = .unused ∨ (s.judgedCand c).sigFail = s.fails c := by
  by_cases unused : (s.cand c).state = .unused
  · exact .inl ((judgedCand_unused s c).2 unused)
  · rw [judgedCand_of_used unused]; exact .inr (CandRec.judged_sigFail _ _)

theorem judgedCand_congr {s t : State} (h : SameSources s t) (tim : t.tim = s.tim) (c : Cand) :
    t.judgedCand c = s.judgedCand c := by
  unfold State.judgedCand State.cand
  rw [h.fails, tim]

theorem judgeFails_tim_congr {s t : State} (h : SameSources s t) (tim : t.tim = s.tim) :
    (judgeFails t).tim = (judgeFails s).tim := by
  have cands : (tab t.judgedCand) = tab s.judgedCand := by rw [funext (judgedCand_congr h tim)]
  change { t.tim with cands := tab t.judgedCand } = { s.tim with cands := tab s.judgedCand }
  rw [cands, tim]

/-! ## The selection (R138–R140) -/

/-- What picks one of its two arguments at every turn ends with an element of the list, or where it began. -/
theorem foldl_picks {α : Type} {f : Option α → α → Option α} (hf : ∀ o x, f o x = o ∨ f o x = some x)
    {l : List α} {o : Option α} {y : α} (h : l.foldl f o = some y) : o = some y ∨ y ∈ l := by
  induction l generalizing o with
  | nil => exact .inl h
  | cons x xs ih =>
    rcases ih h with picked | rest
    · rcases hf o x with kept | taken
      · exact .inl (kept ▸ picked)
      · exact .inr (by rw [taken] at picked; cases picked; exact List.mem_cons_self)
    · exact .inr (List.mem_cons_of_mem x rest)

theorem best_qualified {s : State} {c : Cand} (h : s.best = some c) : (s.cand c).state = .qualified := by
  refine (foldl_picks (fun o x => ?_) h).elim nofun fun mem => ?_
  · cases o with
    | none => exact .inr rfl
    | some b =>
      dsimp only
      split
      · exact .inr rfl
      · exact .inl rfl
  · simpa using (List.mem_filter.1 mem).2

theorem select_of_force {s : State} {c : Cand} (force : s.tim.force = some c) :
    s.select = if (s.cand c).state = .qualified then some c else none := by
  simp [State.select, force, State.isQualified]

/-- Without a force the choice is the best candidate or, where it is non-revertive, the selection that stands (R139). -/
theorem select_of_no_force {s : State} (force : s.tim.force = none) : s.select = s.best ∨
    ∃ c, s.tim.selection = some c ∧ s.select = some c ∧ s.config.revertive = false ∧
      (!s.isQualified c || s.betterQl c) = false := by
  by_cases revertive : s.config.revertive = true
  · simp [State.select, force, revertive]
  rw [Bool.not_eq_true] at revertive
  cases selection : s.tim.selection with
  | none => simp [State.select, force, revertive, selection]
  | some c =>
    by_cases yields : (!s.isQualified c || s.betterQl c) = true
    · left; simp only [State.select, force, revertive, selection, yields, if_true]; rfl
    · rw [Bool.not_eq_true] at yields
      refine .inr ⟨c, rfl, ?_, revertive, yields⟩
      simp only [State.select, force, revertive, selection, yields]; rfl

/-- Only a QUALIFIED candidate is chosen. -/
theorem select_qualified {s : State} {c : Cand} (h : s.select = some c) : (s.cand c).state = .qualified := by
  cases force : s.tim.force with
  | some x =>
    rw [select_of_force force] at h
    split at h
    · cases h; assumption
    · cases h
  | none =>
    rcases select_of_no_force force with best | ⟨x, -, kept, -, stands⟩
    · exact best_qualified (best ▸ h)
    · rw [kept] at h
      cases h
      simp only [State.isQualified, Bool.or_eq_false_iff, Bool.not_eq_false', decide_eq_true_eq] at stands
      exact stands.1

/-- The choice follows from the Timing Selector, the configuration and the QLs. -/
theorem select_congr {s t : State} (tim : t.tim = s.tim) (config : t.config = s.config)
    (upstream : t.upstream = s.upstream) : t.select = s.select := by
  have qlOf : t.qlOf = s.qlOf := by unfold State.qlOf; rw [config, upstream]
  have rankOf : t.rankOf = s.rankOf := by unfold State.rankOf; rw [config, qlOf]
  have isQualified : t.isQualified = s.isQualified := by unfold State.isQualified State.cand; rw [tim]
  have betterQl : t.betterQl = s.betterQl := by unfold State.betterQl; rw [isQualified, qlOf]
  have best : t.best = s.best := by unfold State.best State.cand; rw [tim, rankOf]
  unfold State.select
  rw [tim, config, best, isQualified, betterQl]

/-- The state with its selection re-evaluated and the timing state not yet moved (R139). -/
def State.withSelect (s : State) : State := { s with tim := { s.tim with selection := s.select } }

/-- Choosing again changes nothing. -/
theorem withSelect_select (s : State) : s.withSelect.select = s.select := by
  cases force : s.tim.force with
  | some c => rw [select_of_force force, select_of_force (s := s.withSelect) force]; rfl
  | none =>
    have best : s.withSelect.best = s.best := rfl
    rcases select_of_no_force (s := s.withSelect) force with again | ⟨c, selection, again, -, -⟩
    · rcases select_of_no_force force with first | ⟨c, -, first, revertive, stands⟩
      · rw [again, best, first]
      · have same : (!s.withSelect.isQualified c || s.withSelect.betterQl c) = false := stands
        have selection : s.withSelect.tim.selection = some c := first
        have config : s.withSelect.config.revertive = false := revertive
        have force' : s.withSelect.tim.force = none := force
        rw [first, State.select, force']
        simp [config, selection, same]
    · rw [again]; exact selection.symm

/-! ## The timing state follows (R151, R157) -/

@[simp] theorem setTiming_tim (s : State) (st : TimingState) : (setTiming s st).tim = s.tim := triggerIf_tim _ _

@[simp] theorem setTiming_freq (s : State) (st : TimingState) : (setTiming s st).freq = { s.freq with state := st } :=
  triggerIf_freq _ _

@[simp] theorem setTiming_phase (s : State) (st : TimingState) : (setTiming s st).phase = s.phase :=
  triggerIf_phase _ _

/-- Holdover entry moves the timing state with H, t_entry and the timer. -/
theorem enterHoldover_freq (s : State) : ∃ st h e n, (enterHoldover s).freq =
    { s.freq with state := st, h := h, tEntry := e, hoTimer := n } ∧ (st = .holdover ∨ st = .freerun) := by
  unfold enterHoldover
  split
  · exact ⟨_, _, _, _, setTiming_freq _ _, .inl rfl⟩
  · exact ⟨.freerun, s.freq.h, s.freq.tEntry, s.freq.hoTimer, setTiming_freq _ _, .inr rfl⟩

/-- The timing state is LOCKED or ACQUIRING exactly while a candidate is selected (R151). -/
def TimingTied (s : State) : Prop :=
  s.tim.selection.isSome = true ↔ s.freq.state = .locked ∨ s.freq.state = .acquiring

theorem TimingTied.congr {s t : State} (h : TimingTied s) (selection : t.tim.selection = s.tim.selection)
    (state : t.freq.state = s.freq.state) : TimingTied t := by unfold TimingTied; rw [selection, state]; exact h

theorem reselect_of_same {s : State} (h : s.select = s.tim.selection) : reselect s = s := if_pos h

theorem reselect_of_some {s : State} {c : Cand} (changes : s.select ≠ s.tim.selection) (h : s.select = some c) :
    reselect s = enterAcquiring s.withSelect := by
  unfold reselect
  rw [if_neg changes]
  dsimp only
  split
  · rfl
  · next none => rw [h] at none; cases none

theorem reselect_of_none {s : State} (changes : s.select ≠ s.tim.selection) (h : s.select = none) :
    reselect s = if s.freq.state = .locked ∨ s.freq.state = .acquiring then enterHoldover s.withSelect
      else s.withSelect := by
  unfold reselect
  rw [if_neg changes]
  dsimp only
  split
  · next some => rw [h] at some; cases some
  · rfl

/-- The selection is written, the timing state moves with the lock count, H, t_entry and the timer, and a triggered
announce may be asked for. -/
theorem reselect_eq (s : State) : ∃ b st lock h e n, reselect s = triggerIf b { s.withSelect with
    freq := { s.freq with state := st, lock := lock, h := h, tEntry := e, hoTimer := n } } := by
  by_cases same : s.select = s.tim.selection
  · rw [reselect_of_same same, State.withSelect, same]
    exact ⟨false, _, _, _, _, _, rfl⟩
  cases h : s.select with
  | some c => rw [reselect_of_some same h]; exact ⟨_, _, _, _, _, _, rfl⟩
  | none =>
    rw [reselect_of_none same h]
    split
    · unfold enterHoldover
      split <;> exact ⟨_, _, _, _, _, _, rfl⟩
    · exact ⟨false, _, _, _, _, _, rfl⟩

theorem reselect_tim (s : State) : (reselect s).tim = { s.tim with selection := s.select } := by
  obtain ⟨b, st, lock, h, e, n, eq⟩ := reselect_eq s
  rw [eq, triggerIf_tim]
  rfl

@[simp] theorem reselect_phase (s : State) : (reselect s).phase = s.phase := by
  obtain ⟨b, st, lock, h, e, n, eq⟩ := reselect_eq s
  rw [eq, triggerIf_phase]
  rfl

theorem reselect_cand (s : State) (c : Cand) : (reselect s).cand c = s.cand c := by
  unfold State.cand; rw [reselect_tim]

theorem reselect_freq (s : State) : ∃ st lock h e n, (reselect s).freq =
    { s.freq with state := st, lock := lock, h := h, tEntry := e, hoTimer := n } := by
  obtain ⟨b, st, lock, h, e, n, eq⟩ := reselect_eq s
  exact ⟨st, lock, h, e, n, by rw [eq, triggerIf_freq]⟩

theorem reselect_frame (s : State) : EventFrame s (reselect s) := by
  obtain ⟨b, st, lock, h, e, n, eq⟩ := reselect_eq s
  have written : EventFrame s { s.withSelect with
      freq := { s.freq with state := st, lock := lock, h := h, tEntry := e, hoTimer := n } } :=
    { EventFrame.refl s with }
  rw [eq]
  exact written.trans (triggerIf_frame b _)

theorem reselect_sources (s : State) : SameSources s (reselect s) :=
  (reselect_frame s).sameSources (fun p => by
    obtain ⟨b, st, lock, h, e, n, eq⟩ := reselect_eq s
    rw [eq, State.prec, triggerIf_prot]
    rfl) fun c => by rw [reselect_cand]

/-- The timing state follows the selection (R151). -/
theorem reselect_tied {s : State} (h : TimingTied s) : TimingTied (reselect s) := by
  by_cases same : s.select = s.tim.selection
  · rw [reselect_of_same same]; exact h
  have selection : (reselect s).tim.selection = s.select := by rw [reselect_tim]
  unfold TimingTied
  rw [selection]
  cases chosen : s.select with
  | some c =>
    rw [reselect_of_some same chosen]
    simp [enterAcquiring]
  | none =>
    rw [reselect_of_none same chosen]
    split
    · obtain ⟨st, _, _, _, entered, out⟩ := enterHoldover_freq s.withSelect
      rw [entered]
      rcases out with rfl | rfl <;> simp
    · next out => simpa [State.withSelect] using out

/-! ## The announced values (R142, R143) -/

theorem announceTiming_tim (s : State) : (announceTiming s).tim = { s.tim with
    squelch := decide (s.config.squelchMin < s.qlBefore)
    ql := if s.config.squelchMin < s.qlBefore then 7 else s.qlBefore
    trace := s.traceNow } := by
  unfold announceTiming
  rw [triggerIf_tim]
  simp

@[simp] theorem announceTiming_freq (s : State) : (announceTiming s).freq = s.freq := triggerIf_freq _ _

theorem qlBefore_congr {s t : State} (state : t.freq.state = s.freq.state) (hoTimer : t.freq.hoTimer = s.freq.hoTimer)
    (selection : t.tim.selection = s.tim.selection) (config : t.config = s.config)
    (upstream : t.upstream = s.upstream) : t.qlBefore = s.qlBefore := by
  have qlOf : t.qlOf = s.qlOf := by unfold State.qlOf; rw [config, upstream]
  unfold State.qlBefore State.hoexpired
  rw [state, hoTimer, selection, config, qlOf]

theorem traceNow_congr {s t : State} (state : t.freq.state = s.freq.state)
    (selection : t.tim.selection = s.tim.selection) (straps : t.straps = s.straps)
    (upstream : t.upstream = s.upstream) : t.traceNow = s.traceNow := by
  simp only [State.traceNow, State.own, state, selection, straps, upstream]

/-! ## The timing blocks at an event's end (R134, R139, R147) -/

theorem timing_of_unsettled {s : State} (h : s.settled = false) : timing s = s := by simp [timing, h]

theorem timing_of_settled {s : State} (h : s.settled = true) : timing s = timingPart s (timingAll s) := if_pos h

theorem timing_tim {s : State} (h : s.settled = true) :
    (timing s).tim = (announceTiming (reselect (judgeFails s))).tim := by
  have force : (timingAll s).tim.force = s.tim.force := by
    rw [timingAll, announceTiming_tim, reselect_tim]; rfl
  rw [timing_of_settled h]
  change { (timingAll s).tim with force := s.tim.force } = (timingAll s).tim
  rw [← force]

/-- The choice is made over the candidates as judged. -/
theorem timing_selection {s : State} (h : s.settled = true) :
    (timing s).tim.selection = (judgeFails s).select := by
  rw [timing_tim h, announceTiming_tim, reselect_tim]

theorem timing_cand {s : State} (h : s.settled = true) (c : Cand) : (timing s).cand c = s.judgedCand c := by
  rw [← judgeFails_cand, State.cand, timing_tim h, announceTiming_tim, reselect_tim, State.cand]

theorem timing_freq {s : State} (h : s.settled = true) : (timing s).freq = (reselect (judgeFails s)).freq := by
  obtain ⟨st, lock, hold, e, n, moved⟩ := reselect_freq (judgeFails s)
  have freq : (timingAll s).freq = { s.freq with state := st, lock := lock, h := hold, tEntry := e, hoTimer := n } :=
    (announceTiming_freq _).trans moved
  rw [moved, timing_of_settled h]
  change { s.freq with
    state := (timingAll s).freq.state, lock := (timingAll s).freq.lock, h := (timingAll s).freq.h
    tEntry := (timingAll s).freq.tEntry, hoTimer := (timingAll s).freq.hoTimer } = _
  rw [freq]
  rfl

theorem timing_sources (s : State) : SameSources s (timing s) :=
  (timing_frame s).sameSources (fun p => by rw [State.prec, timing_prot]; rfl) fun c => by
    by_cases settled : s.settled = true
    · obtain ⟨-, -, noEdges⟩ := judgedCand_rest s c
      rw [timing_cand settled, noEdges]
    · rw [timing_of_unsettled (by simpa using settled)]

/-- The state in which an event's changes come to the timing blocks. -/
def State.readied (s : State) : State := readbackCheck (arbitrate (protect s))

theorem handOn_eq (s : State) : handOn s = timing s.readied := rfl

theorem readied_of_running {s : State} (h : s.phase = .running) :
    s.readied = arbitrate (protect s) := readbackCheck_running _ (by simp [h])

/-- In normal running neither protection nor the driver link bears on the references. -/
theorem readied_sources {s : State} (h : s.phase = .running) : SameSources s s.readied ∧ s.readied.tim = s.tim := by
  have tim : s.readied.tim = s.tim := by rw [readied_of_running h, arbitrate_tim, protect_tim]
  refine ⟨EventFrame.sameSources ?_ (fun p => ?_) fun c => by simp only [State.cand, tim], tim⟩
  · rw [readied_of_running h]; exact (protect_frame s).trans (arbitrate_frame _)
  · rw [readied_of_running h, State.prec, arbitrate_prot]
    exact (protect_prec s p).1

theorem settled_of_running {s : State} (h : s.phase = .running) : s.settled = true := by simp [State.settled, h]

section

variable {s : State} (s0 : State) (running : s.phase = .running)
include running

theorem readied_settled : s.readied.settled = true :=
  settled_of_running (by rw [readied_of_running running]; simpa using running)

/-- In normal running the changes handed on leave every candidate judged (R134). -/
theorem handOn_cand (c : Cand) : (handOn s).cand c = s.judgedCand c := by
  obtain ⟨sources, tim⟩ := readied_sources running
  rw [handOn_eq, timing_cand (readied_settled running), judgedCand_congr sources tim]

/-- They leave the choice made among them (R139). -/
theorem handOn_selection : (handOn s).tim.selection = (judgeFails s).select := by
  obtain ⟨sources, tim⟩ := readied_sources running
  rw [handOn_eq, timing_selection (readied_settled running)]
  exact select_congr (judgeFails_tim_congr sources tim) sources.config sources.upstream

theorem conclude_cand (c : Cand) : (conclude s0 s).cand c = s.judgedCand c := by
  rw [State.cand, conclude_tim, ← State.cand, handOn_cand running]

theorem conclude_selection : (conclude s0 s).tim.selection = (judgeFails s).select := by
  rw [conclude_tim, handOn_selection running]

/-- A candidate that is not QUALIFIED after an event is not selected (R139). -/
theorem conclude_not_selected {c : Cand} (h : ((conclude s0 s).cand c).state ≠ .qualified) :
    (conclude s0 s).tim.selection ≠ some c := by
  intro selected
  rw [conclude_selection s0 running] at selected
  rw [conclude_cand s0 running, ← judgeFails_cand] at h
  exact h (select_qualified selected)

/-- No event's end moves a candidate's d or hit mark. -/
theorem conclude_cand_rest (c : Cand) :
    ((conclude s0 s).cand c).d = (s.cand c).d ∧ ((conclude s0 s).cand c).hit = (s.cand c).hit := by
  obtain ⟨d, hit, -⟩ := judgedCand_rest s c
  rw [conclude_cand s0 running]
  exact ⟨d, hit⟩

end

end Sys2Proof.Machine
end

section
/-! SUPPORT. What a command leaves of the timing blocks (O44, O45): as they were, worked out at the event's end, or at a
start; and so their two invariants over every step. -/

namespace Sys2Proof.Machine

/-! ## Timing blocks left alone -/

/-- `t` has the timing blocks of `s`, but for gates and measurements of candidates and the seconds counter, and all that
they follow. The default proofs are those of a `t` that leaves them untouched. -/
structure TimingKept (s t : State) : Prop where
  sources : SameSources s t := by exact {}
  settled : t.settled = s.settled := by exact rfl
  tim : t.tim = { s.tim with cands := t.tim.cands } := by exact rfl
  cands : ∀ c, (t.cand c).state = (s.cand c).state ∧ (t.cand c).sigFail = (s.cand c).sigFail := by
    exact fun _ => ⟨rfl, rfl⟩
  freq : t.freq = { s.freq with seconds := t.freq.seconds } := by exact rfl

section

variable {s t : State} (h : TimingKept s t)
include h

theorem TimingKept.selection : t.tim.selection = s.tim.selection := by rw [h.tim]

theorem TimingKept.timingState : t.freq.state = s.freq.state := by rw [h.freq]

theorem TimingKept.tied (tied : TimingTied s) : TimingTied t := tied.congr h.selection h.timingState

theorem TimingKept.sound (sound : TimingSound s) : TimingSound t where
  qualified c selected := by
    obtain ⟨state, -⟩ := h.cands c
    rw [state]
    exact sound.qualified c (h.selection ▸ selected)
  state := h.tied sound.state
  judged settled c := by
    obtain ⟨state, sigFail⟩ := h.cands c
    rw [state, sigFail, h.sources.fails]
    exact sound.judged (h.settled ▸ settled) c

theorem TimingKept.announceSound (sound : AnnounceSound s) : AnnounceSound t := by
  intro settled
  obtain ⟨squelch, ql, trace⟩ := sound (h.settled ▸ settled)
  have qlBefore : t.qlBefore = s.qlBefore := qlBefore_congr h.timingState (by rw [h.freq]) h.selection h.sources.config
    h.sources.upstream
  have traceNow : t.traceNow = s.traceNow := traceNow_congr h.timingState h.selection h.sources.straps
    h.sources.upstream
  rw [qlBefore, traceNow, h.sources.config, h.tim]
  exact ⟨squelch, ql, trace⟩

end

/-- The Alarm Unit follows the timing blocks and moves none of them (R165). -/
theorem conclude_timingKept (s0 s : State) : TimingKept (handOn s) (conclude s0 s) where
  sources := (alarms_frame s0.alm _).sameSources (fun p => by simp [State.prec]) fun c => by simp [State.cand]
  settled := by simp [State.settled]
  tim := by simp
  cands c := by simp [State.cand]
  freq := by simp

theorem TimingKept.respond {s t : State} (h : TimingKept s t) (src : Station) (code : Byte) (r : Result)
    (data : List Byte) : TimingKept s (respond t src code r data) :=
  ⟨{ h.sources with }, h.settled, h.tim, h.cands, h.freq⟩

/-! ## Before the timing blocks at an event's end -/

/-- Every candidate of `t` is in the state it has in `s`. -/
def StatesKept (s t : State) : Prop := ∀ c, (t.cand c).state = (s.cand c).state

theorem statesKept_of_tim {s t : State} (h : t.tim = s.tim) : StatesKept s t := fun c => by simp only [State.cand, h]

theorem StatesKept.trans {s t u : State} (h : StatesKept s t) (g : StatesKept t u) : StatesKept s u :=
  fun c => (g c).trans (h c)

/-- An event has brought `s` to `x`, with the timing state tied to the selection as before; until the image is settled
the selection and the candidates stay as they were (R147). -/
structure TimingReady (s x : State) : Prop where
  tied : TimingTied s → TimingTied x
  unsettled : x.settled = false → s.settled = false
  before : x.settled = false → x.tim.selection = s.tim.selection ∧ StatesKept s x

theorem TimingReady.refl (s : State) : TimingReady s s := ⟨id, id, fun _ => ⟨rfl, fun _ => rfl⟩⟩

theorem TimingReady.trans {s x y : State} (h : TimingReady s x) (g : TimingReady x y) : TimingReady s y where
  tied := g.tied ∘ h.tied
  unsettled := h.unsettled ∘ g.unsettled
  before unsettled := by
    obtain ⟨selection, states⟩ := g.before unsettled
    obtain ⟨selection', states'⟩ := h.before (g.unsettled unsettled)
    exact ⟨selection.trans selection', states'.trans states⟩

/-- What leaves the selection and the states of the candidates and of timing alone is ready. -/
theorem timingReady_of_states {s x : State} (selection : x.tim.selection = s.tim.selection) (states : StatesKept s x)
    (state : x.freq.state = s.freq.state) (unsettled : x.settled = false → s.settled = false) : TimingReady s x :=
  ⟨fun tied => tied.congr selection state, unsettled, fun _ => ⟨selection, states⟩⟩

theorem timingReady_of_tim {s x : State} (tim : x.tim = s.tim) (freq : x.freq = s.freq) (phase : x.phase = s.phase) :
    TimingReady s x :=
  timingReady_of_states (by rw [tim]) (statesKept_of_tim tim) (by rw [freq])
    (by simp only [State.settled, phase]; exact id)

/-- After the settling only the tie matters: the candidates are judged and the selection made anew. -/
theorem timingReady_of_settled {s x : State} (settled : x.settled = true) (tied : TimingTied s → TimingTied x) :
    TimingReady s x :=
  ⟨tied, fun h => absurd (settled.symm.trans h) (by decide), fun h => absurd (settled.symm.trans h) (by decide)⟩

/-! ### Operations that work on no reference but by a hit -/

/-- `t` comes from `s` without a move of the phase, the selection, a candidate's state or the Frequency Unit. -/
structure HitsOnly (s t : State) : Prop where
  selection : t.tim.selection = s.tim.selection
  states : StatesKept s t
  freq : t.freq = s.freq
  phase : t.phase = s.phase

theorem hitsOnly_of_tim {s t : State} (tim : t.tim = s.tim) (freq : t.freq = s.freq) (phase : t.phase = s.phase) :
    HitsOnly s t :=
  ⟨by rw [tim], statesKept_of_tim tim, freq, phase⟩

theorem HitsOnly.refl (s : State) : HitsOnly s s := hitsOnly_of_tim rfl rfl rfl

theorem HitsOnly.trans {s t u : State} (h : HitsOnly s t) (g : HitsOnly t u) : HitsOnly s u :=
  ⟨g.selection.trans h.selection, h.states.trans g.states, g.freq.trans h.freq, g.phase.trans h.phase⟩

theorem HitsOnly.ite {s t u : State} {b : Prop} [Decidable b] (h : HitsOnly s t) (g : HitsOnly s u) :
    HitsOnly s (if b then t else u) := by
  split
  · exact h
  · exact g

theorem HitsOnly.settled {s t : State} (h : HitsOnly s t) : t.settled = s.settled := by
  simp only [State.settled, h.phase]

theorem HitsOnly.ready {s t : State} (h : HitsOnly s t) : TimingReady s t where
  tied tied := tied.congr h.selection (by rw [h.freq])
  unsettled := by rw [h.settled]; exact id
  before _ := ⟨h.selection, h.states⟩

theorem foldl_hitsOnly {α : Type} {f : State → α → State} (hf : ∀ s x, HitsOnly s (f s x)) (l : List α)
    (s : State) : HitsOnly s (l.foldl f s) := by
  induction l generalizing s with
  | nil => exact .refl s
  | cons x xs ih => exact (hf s x).trans (ih (f s x))

theorem requestTrigger_hitsOnly (s : State) : HitsOnly s (requestTrigger s) :=
  hitsOnly_of_tim (requestTrigger_tim s) (requestTrigger_freq s) (requestTrigger_phase s)

theorem triggerIf_hitsOnly (b : Bool) (s : State) : HitsOnly s (triggerIf b s) :=
  .ite (requestTrigger_hitsOnly s) (.refl s)

theorem removeEntry_hitsOnly (s : State) (p : Port) (m : Maker) : HitsOnly s (removeEntry s p m) :=
  .ite (hitsOnly_of_tim rfl rfl rfl) (.ite (hitsOnly_of_tim rfl rfl rfl) (.refl s))

theorem endStep_hitsOnly (s : State) (r : ExResult) : HitsOnly s (endStep s r) :=
  hitsOnly_of_tim (triggerIf_tim _ _) (triggerIf_freq _ _) (triggerIf_phase _ _)

theorem markStep_hitsOnly (s : State) (st : Step) : HitsOnly s (markStep s st) := hitsOnly_of_tim rfl rfl rfl

/-- The handling of protection works on no candidate. -/
theorem hitsOnly_closed : ProtectClosed HitsOnly where
  refl := .refl
  trans := .trans
  record _ _ _ := hitsOnly_of_tim rfl rfl rfl
  driver _ _ _ := hitsOnly_of_tim rfl rfl rfl
  demands _ _ := hitsOnly_of_tim rfl rfl rfl
  trigger := requestTrigger_hitsOnly
  replaced s := by
    unfold stepReplaced
    split
    · exact endStep_hitsOnly s _
    · exact .refl s
  portBusy s := by
    unfold stepPortBusy
    split
    · exact .refl s
    · exact .ite (.refl s) <| .ite ((removeEntry_hitsOnly s _ _).trans (endStep_hitsOnly _ _)) (markStep_hitsOnly s _)
  released s := by
    unfold stepRelease
    split
    · exact .refl s
    · exact .ite (.ite ((removeEntry_hitsOnly s _ _).trans (endStep_hitsOnly _ _))
        ((markStep_hitsOnly s _).trans (triggerIf_hitsOnly _ _))) (.refl s)

theorem hitCand_hitsOnly (s : State) (c : Cand) : HitsOnly s (hitCand s c) := by
  refine .ite (.refl s) ⟨rfl, fun x => ?_, rfl, rfl⟩
  rw [setCand_cand]
  split
  · next same => rw [same]
  · rfl

theorem refHit_hitsOnly (s : State) (p : Port) : HitsOnly s (refHit s p) :=
  foldl_hitsOnly (fun u _ => .ite (hitCand_hitsOnly u _) (.refl u)) (idx 4) s

/-! ### The end of an actuation (R113) -/

theorem updRec_hitsOnly (s : State) (p : Port) (f : PortRec → PortRec) : HitsOnly s (updRec s p f) :=
  hitsOnly_of_tim rfl rfl rfl

theorem setDport_hitsOnly (s : State) (p : Port) (d : PortDrv) : HitsOnly s (s.setDport p d) :=
  hitsOnly_of_tim rfl rfl rfl

theorem ask_hitsOnly (s : State) (p : Port) (c : Cmd) (m : Maker) (b : Bool) : HitsOnly s (ask s p c m b) :=
  hitsOnly_closed.keeps_ask s p c m b

theorem withdraw_hitsOnly (s : State) (p : Port) (st : PortState) : HitsOnly s (withdraw s p st) :=
  hitsOnly_closed.keeps_withdraw s p st

theorem startMask_hitsOnly (s : State) (sp : Option Spare) : HitsOnly s (startMask s sp) := by
  unfold startMask
  split
  · exact .refl s
  · exact .ite (.refl s) (hitsOnly_of_tim rfl rfl rfl)

theorem notePositions_hitsOnly (s : State) (p : Port) (c : Cmd) (r : Option Reply) :
    HitsOnly s (notePositions s p c r) := by
  unfold notePositions
  split
  · cases c <;> exact setDport_hitsOnly s p _
  · exact .refl s

theorem noteReport_hitsOnly (s : State) (p : Port) (c : Cmd) (r : Option Reply) : HitsOnly s (noteReport s p c r) :=
  (notePositions_hitsOnly s p c r).trans (setDport_hitsOnly _ p _)

theorem endRetry_hitsOnly (s : State) (p : Port) : HitsOnly s (endRetry s p) :=
  .ite (setDport_hitsOnly s p _) (.refl s)

theorem setRetry_hitsOnly (s : State) (p : Port) (k : RetryKind) : HitsOnly s (setRetry s p k) := by
  unfold setRetry
  split
  · exact .refl s
  · exact HitsOnly.trans (.ite (endRetry_hitsOnly s p) (.refl s)) (setDport_hitsOnly _ p _)

theorem markBridge_hitsOnly (s : State) (p : Port) (sp : Option Spare) : HitsOnly s (markBridge s p sp) := by
  unfold markBridge
  split
  · exact setDport_hitsOnly s p _
  · exact .refl s

theorem noteSuccess_hitsOnly (s : State) (p : Port) (e : Entry) : HitsOnly s (noteSuccess s p e) := by
  unfold noteSuccess
  split
  · exact (setDport_hitsOnly s p _).trans ((endRetry_hitsOnly _ p).trans (setDport_hitsOnly _ p _))
  · exact (endRetry_hitsOnly s p).trans (setDport_hitsOnly _ p _)
  · exact setDport_hitsOnly s p _
  · exact .ite (endRetry_hitsOnly s p) (.refl s)
  · exact .refl s

theorem noteFailure_hitsOnly (s : State) (f : InFlight) : HitsOnly s (noteFailure s f) := by
  have marked : ∀ sp, HitsOnly s (markPair s f.port sp) := fun sp => setDport_hitsOnly s f.port _
  unfold noteFailure
  dsimp only
  split
  · exact .ite ((marked _).trans ((markBridge_hitsOnly _ _ _).trans (setRetry_hitsOnly _ _ _))) (marked _)
  · exact setRetry_hitsOnly s _ _
  · exact marked _
  · exact (markBridge_hitsOnly s _ _).trans (setRetry_hitsOnly _ _ _)
  · exact .refl s

theorem setSelection_hitsOnly (s : State) (p : Port) (sel : Option Spare) : HitsOnly s (setSelection s p sel) :=
  .ite (.refl s) ((updRec_hitsOnly s p _).trans (refHit_hitsOnly _ p))

theorem connectEnd_hitsOnly (s : State) (p : Port) (sp : Spare) (ok : Bool) : HitsOnly s (connectEnd s p sp ok) := by
  have written : ∀ f, HitsOnly s (updRec (setSelection s p (some sp)) p f) := fun f =>
    (setSelection_hitsOnly s p _).trans (updRec_hitsOnly _ p f)
  unfold connectEnd
  dsimp only
  split
  · exact .ite (written _) (withdraw_hitsOnly s p _)
  · exact .ite (.ite ((written _).trans (requestTrigger_hitsOnly _))
      ((updRec_hitsOnly s p _).trans (requestTrigger_hitsOnly _))) (.refl s)
  · refine .ite ?_ <| .ite ((setSelection_hitsOnly s p _).trans (ask_hitsOnly _ p _ _ _)) <|
      .ite (ask_hitsOnly s p _ _ _) (withdraw_hitsOnly s p _)
    exact (HitsOnly.ite (written _) (updRec_hitsOnly s p _)).trans
      ((requestTrigger_hitsOnly _).trans (ask_hitsOnly _ p _ _ _))
  · exact .refl s

theorem restoreEnd_hitsOnly (s : State) (p : Port) (ok : Bool) : HitsOnly s (restoreEnd s p ok) :=
  .ite (.ite ((setSelection_hitsOnly s p none).trans (withdraw_hitsOnly _ p _)) (setSelection_hitsOnly s p none))
    (.refl s)

theorem bridgeEnd_hitsOnly (s : State) (p : Port) (ok made : Bool) : HitsOnly s (bridgeEnd s p ok made) := by
  unfold bridgeEnd
  split
  · exact .refl s
  · have queued : ∀ st e, HitsOnly s (putQueue (markStep s st) p e) := fun st e =>
      (markStep_hitsOnly s st).trans (setDport_hitsOnly _ p _)
    exact .ite (queued _ _) (.ite (queued _ _) (endStep_hitsOnly s _))

theorem unbridgeEnd_hitsOnly (s : State) (ok : Bool) : HitsOnly s (unbridgeEnd s ok) := by
  unfold unbridgeEnd
  split
  · exact .refl s
  · exact .ite (endStep_hitsOnly s _) (endStep_hitsOnly s _)

theorem queryEnd_hitsOnly (s : State) (p : Port) (r : Option Reply) : HitsOnly s (queryEnd s p r) := by
  unfold queryEnd
  split
  · next receive bridge =>
    have placed : HitsOnly s (match receive with
        | .working => s
        | .unknown => s.setDport p { s.dport p with mark := true }
        | .spare sp =>
          if s.given p sp then s.setDport p { s.dport p with mark := true }
          else s.setDport p { s.dport p with placed := some sp }) := by
      cases receive with
      | working => exact .refl s
      | unknown => exact setDport_hitsOnly s p _
      | spare sp => exact .ite (setDport_hitsOnly s p _) (setDport_hitsOnly s p _)
    cases bridge with
    | spare => exact placed.trans (ask_hitsOnly _ p _ _ _)
    | working | unknown => exact placed
  · exact setDport_hitsOnly s p _

theorem tellMaker_hitsOnly (s : State) (p : Port) (e : Entry) (r : Option Reply) : HitsOnly s (tellMaker s p e r) := by
  unfold tellMaker
  dsimp only
  split
  · exact connectEnd_hitsOnly s p _ _
  · exact restoreEnd_hitsOnly s p _
  · exact bridgeEnd_hitsOnly s p _ _
  · exact .ite (unbridgeEnd_hitsOnly s _) (.refl s)
  · exact queryEnd_hitsOnly s p r

theorem protect_hitsOnly (s : State) : HitsOnly s (protect s) :=
  hitsOnly_of_tim (protect_tim s) (protect_freq s) (protect_phase s)

theorem placeWaiting_hitsOnly (s : State) (p : Port) : HitsOnly s (placeWaiting s p) := by
  unfold placeWaiting
  split
  · exact (setDport_hitsOnly s p _).trans (ask_hitsOnly _ p _ _ _)
  · exact .refl s

theorem actuationSteps_hitsOnly (s : State) (f : InFlight) (r : Option Reply) : HitsOnly s (actuationSteps s f r) := by
  have landed : HitsOnly s { s with drv := { s.drv with inFlight := none } } := hitsOnly_of_tim rfl rfl rfl
  unfold actuationSteps
  exact landed.trans <| (startMask_hitsOnly _ _).trans <| (noteReport_hitsOnly _ _ _ _).trans <|
    (HitsOnly.ite (noteSuccess_hitsOnly _ _ _) (noteFailure_hitsOnly _ _)).trans <|
    (tellMaker_hitsOnly _ _ _ _).trans <| (protect_hitsOnly _).trans (placeWaiting_hitsOnly _ _)

/-- The end of an actuation hits line candidates and moves no candidate's state (R137). -/
theorem actuationEnd_hitsOnly (s : State) (f : InFlight) (r : Option Reply) : HitsOnly s (actuationEnd s f r) :=
  ⟨rfl, (actuationSteps_hitsOnly s f r).states, rfl, rfl⟩

/-! ## The end of an event -/

theorem takePosition_hitsOnly (s : State) (p : Port) : HitsOnly s (takePosition s p) := by
  unfold takePosition
  split
  · exact (updRec_hitsOnly s p _).trans (refHit_hitsOnly _ p)
  · exact .refl s

theorem arbitrate_hitsOnly (s : State) : HitsOnly s (arbitrate s) :=
  hitsOnly_of_tim (arbitrate_tim s) (arbitrate_freq s) (arbitrate_phase s)

theorem beginListen_ready (s : State) : TimingReady s (beginListen s) := by
  have placed := foldl_hitsOnly takePosition_hitsOnly (idx 16) s
  unfold beginListen
  generalize (idx 16).foldl takePosition s = u at placed ⊢
  exact timingReady_of_settled rfl fun tied => tied.congr placed.selection (congrArg Frequency.state placed.freq)

theorem readbackCheck_ready (s : State) : TimingReady s (readbackCheck s) := by
  unfold readbackCheck
  split
  · exact beginListen_ready s
  · exact .refl s

theorem readied_ready (s : State) : TimingReady s s.readied :=
  (protect_hitsOnly s).ready.trans ((arbitrate_hitsOnly _).ready.trans (readbackCheck_ready _))

theorem timing_tied {s : State} (tied : TimingTied s) : TimingTied (timing s) := by
  by_cases settled : s.settled = true
  · have judged : TimingTied (judgeFails s) := tied
    refine (reselect_tied judged).congr ?_ (by rw [timing_freq settled])
    rw [timing_selection settled, reselect_tim]
  · rwa [timing_of_unsettled (by simpa using settled)]

theorem timing_settled (s : State) : (timing s).settled = s.settled := by simp [State.settled]

theorem timing_ready (s : State) : TimingReady s (timing s) where
  tied := timing_tied
  unsettled := by rw [timing_settled]; exact id
  before unsettled := by
    rw [timing_settled] at unsettled
    rw [timing_of_unsettled unsettled]
    exact ⟨rfl, fun _ => rfl⟩

theorem handOn_ready (s : State) : TimingReady s (handOn s) := (readied_ready s).trans (timing_ready _)

/-- From the settling on the timing blocks leave the selection QUALIFIED and the signal fails judged. -/
theorem timing_sound {s : State} (settled : s.settled = true) (tied : TimingTied s) : TimingSound (timing s) where
  qualified c selected := by
    rw [timing_selection settled] at selected
    rw [timing_cand settled, ← judgeFails_cand]
    exact select_qualified selected
  state := timing_tied tied
  judged _ c := by
    rw [timing_cand settled, (timing_sources s).fails]
    exact judgedCand_agrees s c

/-- The timing blocks leave what is announced as the timing state and the selection give it (R142, R143). -/
theorem timing_announceSound (s : State) : AnnounceSound (timing s) := by
  intro settled'
  have settled : s.settled = true := (timing_settled s).symm.trans settled'
  have sources := timing_sources s
  have freq := timing_freq settled
  have frame := reselect_frame (judgeFails s)
  have selection : (timing s).tim.selection = (reselect (judgeFails s)).tim.selection := by
    rw [timing_selection settled, reselect_tim]
  have config : (timing s).config = (reselect (judgeFails s)).config := sources.config.trans frame.config.symm
  have upstream : (timing s).upstream = (reselect (judgeFails s)).upstream := sources.upstream.trans frame.upstream.symm
  have qlBefore := qlBefore_congr (congrArg Frequency.state freq) (congrArg Frequency.hoTimer freq) selection config
    upstream
  have traceNow := traceNow_congr (congrArg Frequency.state freq) selection
    (sources.straps.trans frame.straps.symm) upstream
  rw [qlBefore, traceNow, config, timing_tim settled, announceTiming_tim]
  simp

theorem handOn_sound {s x : State} (ready : TimingReady s x) (sound : TimingSound s) : TimingSound (handOn x) := by
  have readied := ready.trans (readied_ready x)
  by_cases settled : x.readied.settled = true
  · exact timing_sound settled (readied.tied sound.state)
  rw [Bool.not_eq_true] at settled
  obtain ⟨selection, states⟩ := readied.before settled
  rw [handOn_eq, timing_of_unsettled settled]
  refine ⟨fun c selected => ?_, readied.tied sound.state, fun h => absurd (settled.symm.trans h) (by decide)⟩
  rw [states c]
  exact sound.qualified c (selection ▸ selected)

/-! ## The outcomes of a command -/

/-- How a command leaves the timing blocks. -/
inductive TimingOutcome (s : State) : State → Prop
  /-- As they were. -/
  | kept {t : State} (kept : TimingKept s t) : TimingOutcome s t
  /-- Worked out at the event's end. -/
  | concluded {x t : State} (ready : TimingReady s x) (kept : TimingKept (handOn x) t) : TimingOutcome s t
  /-- At a start, with no candidate selected (R147, R162). -/
  | started {t : State} (unsettled : t.settled = false) (selection : t.tim.selection = none)
    (state : ¬(t.freq.state = .locked ∨ t.freq.state = .acquiring)) : TimingOutcome s t

theorem TimingOutcome.sound {s t : State} (h : TimingOutcome s t) (sound : TimingSound s) : TimingSound t := by
  cases h with
  | kept kept => exact kept.sound sound
  | concluded ready kept => exact kept.sound (handOn_sound ready sound)
  | started unsettled selection state =>
    refine ⟨fun c selected => ?_, ?_, fun h => absurd (unsettled.symm.trans h) (by decide)⟩
    · rw [selection] at selected; cases selected
    · rw [selection]; exact ⟨nofun, fun h => absurd h state⟩

theorem TimingOutcome.announceSound {s t : State} (h : TimingOutcome s t) (sound : AnnounceSound s) :
    AnnounceSound t := by
  cases h with
  | kept kept => exact kept.announceSound sound
  | concluded ready kept => exact kept.announceSound (timing_announceSound _)
  | started unsettled => exact fun h => absurd (unsettled.symm.trans h) (by decide)

theorem timingOutcome_refl (s : State) : TimingOutcome s s := .kept {}

/-- An event that ends by the handing on of its changes. -/
theorem TimingReady.conclude {s x : State} (ready : TimingReady s x) (s0 : State) : TimingOutcome s (conclude s0 x) :=
  .concluded ready (conclude_timingKept s0 x)

theorem TimingReady.respond {s x : State} (ready : TimingReady s x) (s0 : State) (src : Station) (code : Byte)
    (r : Result) (data : List Byte) : TimingOutcome s (respond (Machine.conclude s0 x) src code r data) :=
  .concluded ready ((conclude_timingKept s0 x).respond src code r data)

end Sys2Proof.Machine
end

section
/-! SUPPORT. The timing blocks over every command (O44, O45): which of the three outcomes each has. -/

namespace Sys2Proof.Machine

/-! ## Starts and the settling -/

/-- A start ends with the image unsettled and no candidate selected. -/
theorem beginStart_timingOutcome (s u : State) (straps : BitVec 5) (selection : u.tim.selection = none)
    (state : ¬(u.freq.state = .locked ∨ u.freq.state = .acquiring)) : TimingOutcome s (beginStart u straps) := by
  have phase : (beginStart u straps).phase = if straps.toNat < 30 then .loading false else .halt := rfl
  refine .started ?_ ?_ state
  · by_cases number : straps.toNat < 30 <;> simp [State.settled, phase, number]
  · change (announceTiming _).tim.selection = none
    rw [announceTiming_tim]
    exact selection

theorem fullReset_timingOutcome (s : State) (straps : BitVec 5) : TimingOutcome s (fullReset s straps) :=
  beginStart_timingOutcome s _ straps rfl (by simp [State.reset, Frequency.reset])

/-- A restart comes to HOLDOVER or to FREERUN (R162). -/
theorem restarted_state (f : Frequency) (straps : BitVec 5) :
    ¬((f.restarted straps).state = .locked ∨ (f.restarted straps).state = .acquiring) := by
  unfold Frequency.restarted
  dsimp only
  split <;> simp

theorem restart_timingOutcome (s u : State) (straps : BitVec 5) : TimingOutcome s (restart u straps) :=
  beginStart_timingOutcome s _ straps rfl (restarted_state u.freq straps)

theorem queryUsed_hitsOnly (s : State) (p : Port) : HitsOnly s (queryUsed s p) :=
  .ite (ask_hitsOnly s p _ _ _) (.refl s)

/-- The work of a settling leaves the selection and the timing state to the event's end. -/
theorem beginWork_ready (s : State) (g : Config) (cfgdef : Bool) (temp : BitVec 9) :
    TimingReady s (beginWork s g cfgdef temp) := by
  have begun : TimingReady s (s.workBegun g cfgdef temp) := timingReady_of_settled rfl id
  rw [beginWork_eq]
  exact begun.trans (foldl_hitsOnly queryUsed_hitsOnly (idx 16) _).ready

theorem settle_timingOutcome (s : State) (i : RawImage) (failed : Bool) (temp : BitVec 9) :
    TimingOutcome s (settle s i failed temp) := (beginWork_ready s _ _ temp).conclude s

theorem readFailed_timingOutcome {s : State} {second : Bool} (temp : BitVec 9) (phase : s.phase = .loading second) :
    TimingOutcome s (readFailed s second temp) := by
  unfold readFailed
  split
  · exact settle_timingOutcome s _ _ temp
  · exact .kept { settled := by simp only [State.settled, phase] }

theorem placeRecord_hitsOnly (s : State) (p : Port) : HitsOnly s (placeRecord s p) := by
  unfold placeRecord
  dsimp only
  split
  · exact updRec_hitsOnly s p _
  · exact .refl s

/-! ## The peer view -/

theorem refresh_hitsOnly (s : State) (n : Station) : HitsOnly s (refresh s n) :=
  hitsOnly_of_tim (triggerIf_tim _ _) (triggerIf_freq _ _) (triggerIf_phase _ _)

theorem setPeer_hitsOnly (s : State) (n : Station) (r : PeerRec) : HitsOnly s (s.setPeer n r) :=
  hitsOnly_of_tim rfl rfl rfl

theorem unheardEval_hitsOnly (s : State) : HitsOnly s (unheardEval s) := .ite (hitsOnly_of_tim rfl rfl rfl) (.refl s)

theorem unheardEnd_hitsOnly (s : State) (a : Announce) : HitsOnly s (unheardEnd s a) :=
  .ite (hitsOnly_of_tim (requestTrigger_tim _) (requestTrigger_freq _) (requestTrigger_phase _)) (.refl s)

theorem takeAnnounce_hitsOnly (s : State) (n : Station) (a : Announce) : HitsOnly s (takeAnnounce s n a) := by
  exact (refresh_hitsOnly s n).trans <| (setPeer_hitsOnly _ n _).trans <|
    (unheardEnd_hitsOnly _ a).trans (unheardEval_hitsOnly _)

/-! ## Requests -/

/-- The candidate of a lockout is written, and the selection left to the event's end (R141). -/
theorem lockCand_tied {s : State} (c : Cand) (on : Bool) (tied : TimingTied s) : TimingTied (lockCand s c on) := by
  unfold lockCand
  dsimp only
  split <;> split <;> exact tied

theorem lockCand_settled (s : State) (c : Cand) (on : Bool) : (lockCand s c on).settled = s.settled := by
  unfold lockCand
  dsimp only
  split <;> split <;> rfl

theorem clearLatches_hitsOnly (s : State) : HitsOnly s (clearLatches s) := by
  unfold clearLatches; exact hitsOnly_of_tim rfl rfl rfl

theorem acknowledge_hitsOnly (s : State) : HitsOnly s (acknowledge s) := by
  unfold acknowledge; exact hitsOnly_of_tim rfl rfl rfl

theorem learn_hitsOnly (s : State) (r : Recv) : HitsOnly s (learn s r) :=
  .ite (hitsOnly_of_tim rfl rfl rfl) (.refl s)

theorem readCapture_hitsOnly (s : State) : HitsOnly s (readCapture s) := by
  unfold readCapture
  split
  · exact .refl s
  · exact hitsOnly_of_tim rfl rfl rfl

theorem sweepStart_hitsOnly (s : State) (sp : Spare) (m : Mode) (n : Nat) (k : Bool) (f : Option Port) :
    HitsOnly s (sweepStart s sp m n k f) :=
  .ite (hitsOnly_of_tim rfl rfl rfl) (hitsOnly_of_tim rfl rfl rfl)

theorem sweepStop_hitsOnly (s : State) : HitsOnly s (sweepStop s) := by
  unfold sweepStop
  dsimp only
  split
  · exact hitsOnly_of_tim rfl rfl rfl
  · exact .ite (hitsOnly_of_tim rfl rfl rfl) (hitsOnly_of_tim rfl rfl rfl)

/-- TREF alone reaches the Timing Selector, and leaves the selection to the event's end (R140, R141). -/
theorem requestEffect_ready {s : State} (settled : s.settled = true) (r : Request) :
    TimingReady s (requestEffect s r) := by
  have untouched : ∀ {t : State}, t.tim = s.tim → t.freq = s.freq → t.phase = s.phase → TimingReady s t :=
    timingReady_of_tim
  cases r with
  | trefForce c => exact timingReady_of_settled settled id
  | trefClear => exact timingReady_of_settled settled id
  | trefLockout c on => exact timingReady_of_settled ((lockCand_settled s c on).trans settled) (lockCand_tied c on)
  | lrn rc => exact (learn_hitsOnly s rc).ready
  | lrnAll => exact (foldl_hitsOnly learn_hitsOnly (idx 20) s).ready
  | capr => exact (readCapture_hitsOnly s).ready
  | clrl => exact (clearLatches_hitsOnly s).ready
  | aco => exact (acknowledge_hitsOnly s).ready
  | slk sp on => exact untouched (triggerIf_tim _ _) (triggerIf_freq _ _) (triggerIf_phase _ _)
  | swpStart sp m n k f => exact (sweepStart_hitsOnly s sp m n k f).ready
  | swpStop => exact (sweepStop_hitsOnly s).ready
  | stat | view | portPart | spar | timgStation | timgCand | logr | mask | force | manual | lockout | clear
  | swpStep | pairClear | rsta => exact untouched rfl rfl rfl

/-- The handling of a request by its cases, each of which ends by the handing on of its changes (R179, R180). -/
theorem takeRequest_timingOutcome {s x : State} (ready : TimingReady s x) (settled : x.settled = true) (s0 : State)
    (src : Station) (all : Bool) (payload : List Byte) : TimingOutcome s (takeRequest s0 x src all payload) := by
  unfold takeRequest
  dsimp only
  split
  · exact ready.conclude s0
  split
  · unfold takeForAll
    split
    · split
      · exact (ready.trans (acknowledge_hitsOnly x).ready).conclude s0
      · exact (ready.trans (clearLatches_hitsOnly x).ready).conclude s0
      · exact ready.conclude s0
    · exact ready.conclude s0
  split
  · exact ready.conclude s0
  split
  · exact ready.respond s0 _ _ _ _
  split
  · exact ready.respond s0 _ _ _ _
  split
  · exact ready.respond s0 _ _ _ _
  · unfold takeValid
    split
    · exact ready.respond s0 _ _ _ _
    · exact (ready.trans (requestEffect_ready settled _)).respond s0 _ _ _ _

theorem handOn_settled {s : State} (h : s.settled = true) : (handOn s).settled = true := by
  by_contra unsettled
  rw [(handOn_ready s).unsettled (by simpa using unsettled)] at h
  cases h

theorem lineQuiet_timingKept (s : State) : TimingKept s (lineQuiet s) := {}

theorem lineQuiet_hitsOnly (s : State) : HitsOnly s (lineQuiet s) := hitsOnly_of_tim rfl rfl rfl

theorem handRequest_timingOutcome {s : State} (settled : s.settled = true) (s0 : State) (src : Station)
    (tgt : BitVec 6) (payload : List Byte) : TimingOutcome s (handRequest s0 (lineQuiet s) src tgt payload) := by
  have heard := (lineQuiet_hitsOnly s).trans (refresh_hitsOnly _ src)
  have handed := handOn_settled (heard.settled.trans settled)
  have ready := heard.ready.trans (handOn_ready _)
  unfold handRequest
  dsimp only
  split
  · exact takeRequest_timingOutcome ready handed s0 src true payload
  split
  · exact takeRequest_timingOutcome ready handed s0 src false payload
  · exact heard.ready.conclude s0

/-- Only a station whose image is settled hears a frame (R49). -/
theorem settled_of_hearing {s : State} (h : s.hearing = true) : s.settled = true := by
  simp only [State.hearing, Bool.and_eq_true] at h
  exact h.1

theorem requestArrives_timingOutcome (s : State) (src : Station) (tgt : BitVec 6) (payload : List Byte) :
    TimingOutcome s (requestArrives s src tgt payload) := by
  unfold requestArrives
  split
  · next taken =>
    have hearing : s.hearing = true := by
      by_contra deaf
      simp [deaf] at taken
    exact handRequest_timingOutcome (settled_of_hearing hearing) s src tgt payload
  · exact .kept (lineQuiet_timingKept s)

/-! ## The bay line -/

theorem handFrame_timingOutcome {s : State} (settled : s.settled = true) (s0 : State) (f : Frame) :
    TimingOutcome s (handFrame s0 (lineQuiet s) f) := by
  have idle := lineQuiet_hitsOnly s
  unfold handFrame
  dsimp only
  split
  · split
    · exact (idle.trans (takeAnnounce_hitsOnly _ _ _)).ready.conclude s0
    · exact .kept (lineQuiet_timingKept s)
  split
  · exact handRequest_timingOutcome settled s0 _ _ _
  · exact (idle.trans (refresh_hitsOnly _ _)).ready.conclude s0

theorem dropFrame_timingOutcome (s : State) (c : FrameClass) : TimingOutcome s (dropFrame s c) := by
  have dropped : HitsOnly s { s with line := { leaveHand s.line c with linefault := some tenSeconds } } :=
    hitsOnly_of_tim rfl rfl rfl
  exact dropped.ready.conclude s

/-! ## Gates and correction events -/

/-- The lock test moves between LOCKED and ACQUIRING alone (R155). -/
theorem lockTest_tied (st : TimingState) (lock size : Nat) :
    ((lockTest st lock size).1 = .locked ∨ (lockTest st lock size).1 = .acquiring) ↔
      st = .locked ∨ st = .acquiring := by
  cases st with
  | acquiring =>
    simp only [lockTest]
    split
    · split <;> simp
    · simp
  | locked =>
    simp only [lockTest]
    split <;> simp
  | holdover | freerun => simp [lockTest]

@[simp] theorem correct_tim (s : State) (hit : Bool) : (correct s hit).tim = s.tim := setTiming_tim _ _

@[simp] theorem correct_phase (s : State) (hit : Bool) : (correct s hit).phase = s.phase := triggerIf_phase _ _

/-- The Frequency Unit after a correction event of target `f` that brings K to `k` (R153–R156). -/
def Frequency.corrected (q : Frequency) (f k : Int) (hit : Bool) : Frequency :=
  let test := lockTest q.state q.lock (f - k).natAbs
  { q with
    t := some f
    k := k
    state := test.1
    lock := test.2
    history := if q.state = .locked ∧ test.1 = .locked ∧ hit = false then feed q.history k else q.history }

theorem correct_freq (s : State) (hit : Bool) : (correct s hit).freq =
    s.freq.corrected s.target (slew s.config.slew s.target s.freq.k) hit := by
  unfold correct Frequency.corrected
  simp [and_assoc]

theorem correct_tied {s : State} (hit : Bool) (tied : TimingTied s) : TimingTied (correct s hit) := by
  unfold TimingTied
  rw [correct_tim, correct_freq]
  exact tied.trans (lockTest_tied _ _ _).symm

theorem completeGate_tied {s : State} (c : Cand) (count : Nat) (tied : TimingTied s) :
    TimingTied (completeGate s c count) := by
  have judged : ∀ r, TimingTied (reselect (s.setCand c r)) := fun r => reselect_tied (s := s.setCand c r) tied
  unfold completeGate
  dsimp only
  split
  · exact correct_tied _ (judged _)
  · exact judged _

@[simp] theorem completeGate_phase (s : State) (c : Cand) (count : Nat) : (completeGate s c count).phase = s.phase := by
  unfold completeGate
  dsimp only
  split <;> simp

theorem edgeBack_tied {s : State} (c : Cand) (tied : TimingTied s) : TimingTied (edgeBack s c) := by
  unfold edgeBack
  dsimp only
  split <;> exact tied

@[simp] theorem edgeBack_phase (s : State) (c : Cand) : (edgeBack s c).phase = s.phase := by
  unfold edgeBack
  dsimp only
  split <;> rfl

/-! ## Every command -/

/-- Every outcome leaves the timing blocks in one of the three ways. -/
def TimesOut (s : State) (o : Host.Outcome State Fault Refusal) : Prop := EveryNext (TimingOutcome s) o

theorem timesOut_next {s t : State} (h : TimingOutcome s t) : TimesOut s (.next t) := (everyNext_next _ t).2 h

/-- An event under a condition, which otherwise changes nothing. -/
theorem timesOut_ite {s t : State} {c : Prop} [Decidable c] (h : TimingOutcome s t) :
    TimesOut s (if c then .next t else .next s) := everyNext_ite h (timingOutcome_refl s)

theorem settled_congr {s t : State} (h : t.phase = s.phase) : t.settled = s.settled := by simp only [State.settled, h]

/-- An event that a settled station alone takes. -/
theorem timesOut_ite_settled {s x : State} {c : Prop} [Decidable c] (settled : c → s.settled = true)
    (phase : x.phase = s.phase) (tied : TimingTied s → TimingTied x) :
    TimesOut s (if c then .next (conclude s x) else .next s) := by
  split
  · next taken =>
    exact timesOut_next ((timingReady_of_settled ((settled_congr phase).trans (settled taken)) tied).conclude s)
  · exact timesOut_next (timingOutcome_refl s)

theorem left_of_and {a b : Bool} (h : (a && b) = true) : a = true := (Bool.and_eq_true_iff.1 h).1

theorem settled_of_takesEvents {s : State} {c : Cand} {b : Bool} (h : (s.takesEvents c && b) = true) :
    s.settled = true := left_of_and (left_of_and h)

theorem execConfigReadEnd_timesOut (r : ConfigRead) (temp : BitVec 9) (s : State) :
    TimesOut s (execConfigReadEnd r temp s) := by
  unfold execConfigReadEnd
  split
  · next second phase =>
    split
    · exact everyNext_ite (settle_timingOutcome s _ _ _) (readFailed_timingOutcome temp phase)
    · exact timesOut_next (readFailed_timingOutcome temp phase)
  all_goals exact timesOut_next (timingOutcome_refl s)

theorem execConfigReadTimeout_timesOut (temp : BitVec 9) (s : State) : TimesOut s (execConfigReadTimeout temp s) := by
  unfold execConfigReadTimeout
  split
  · next second phase => exact timesOut_ite (readFailed_timingOutcome temp phase)
  all_goals exact timesOut_next (timingOutcome_refl s)

theorem execSlotCompletion_timesOut (s : State) : TimesOut s (execSlotCompletion s) := by
  have scanned : HitsOnly s { s with scan := s.scanSlot } := hitsOnly_of_tim rfl rfl rfl
  have decoded : ∀ u r x, HitsOnly u (decodeSlot u r x) := fun u r x =>
    .ite (hitsOnly_of_tim rfl rfl rfl) (hitsOnly_of_tim rfl rfl rfl)
  exact timesOut_ite ((scanned.trans (decoded _ _ _)).ready.conclude s)

theorem execFrameArrival_timesOut (bits : List Bool) (s : State) : TimesOut s (execFrameArrival bits s) := by
  have idle : TimingOutcome s (lineQuiet s) := .kept (lineQuiet_timingKept s)
  unfold execFrameArrival
  split
  · next hearing =>
    split
    · exact everyNext_ite (handFrame_timingOutcome (settled_of_hearing hearing) s _) idle
    · exact timesOut_next idle
  · exact timesOut_next idle

theorem execAttemptStart_timesOut (elapsed : Nat) (s : State) : TimesOut s (execAttemptStart elapsed s) := by
  unfold execAttemptStart
  split
  · exact timesOut_next (timingOutcome_refl s)
  split
  · split
    · exact timesOut_next (.kept {})
    · exact timesOut_next (timingOutcome_refl s)
  · exact timesOut_next (timingOutcome_refl s)

theorem execFrameSent_timesOut (straps : BitVec 5) (s : State) : TimesOut s (execFrameSent straps s) := by
  unfold execFrameSent
  split
  · split
    · exact everyNext_ite (restart_timingOutcome s _ straps) (.kept {})
    · exact timesOut_next (timingOutcome_refl s)
  · exact timesOut_next (timingOutcome_refl s)

theorem execCollision_timesOut (straps : BitVec 5) (s : State) : TimesOut s (execCollision straps s) := by
  unfold execCollision
  split
  · next held _ =>
    split
    · split
      · exact timesOut_next (.kept {})
      · exact everyNext_ite (restart_timingOutcome s _ straps) (dropFrame_timingOutcome s held.cls)
    · exact timesOut_next (timingOutcome_refl s)
  · exact timesOut_next (timingOutcome_refl s)

theorem protectionPart_hitsOnly (s t : State) : HitsOnly s (protectionPart s t) := hitsOnly_of_tim rfl rfl rfl

theorem execClaimWindowExpiry_timesOut (w : WindowOwner) (s : State) : TimesOut s (execClaimWindowExpiry w s) := by
  have settles : ∀ t, TimingOutcome s (conclude s (protectionPart s t)) := fun t =>
    (protectionPart_hitsOnly s t).ready.conclude s
  unfold execClaimWindowExpiry
  split
  · exact timesOut_ite (settles _)
  split
  · exact timesOut_ite (settles _)
  · exact timesOut_next (timingOutcome_refl s)

theorem execDriverAnswer_timesOut (a : DriverAnswer) (s : State) : TimesOut s (execDriverAnswer a s) := by
  unfold execDriverAnswer
  split
  · exact timesOut_ite ((actuationEnd_hitsOnly s _ _).ready.conclude s)
  · exact timesOut_next (timingOutcome_refl s)

theorem execAllowanceExpiry_timesOut (s : State) : TimesOut s (execAllowanceExpiry s) := by
  unfold execAllowanceExpiry
  split
  · exact timesOut_ite ((actuationEnd_hitsOnly s _ _).ready.conclude s)
  · exact timesOut_next (timingOutcome_refl s)

theorem execRetryTimerExpiry_timesOut (p : Port) (s : State) : TimesOut s (execRetryTimerExpiry p s) := by
  unfold execRetryTimerExpiry
  split
  · split
    · exact everyNext_ite ((setDport_hitsOnly s p _).ready.conclude s) ((protectionPart_hitsOnly s _).ready.conclude s)
    · exact timesOut_next (timingOutcome_refl s)
  · exact timesOut_next (timingOutcome_refl s)

theorem execStepTimerExpiry_timesOut (s : State) : TimesOut s (execStepTimerExpiry s) := by
  have stopped : HitsOnly s s.timerStopped := hitsOnly_of_tim rfl rfl rfl
  unfold execStepTimerExpiry
  dsimp only
  split
  · exact everyNext_ite ((stopped.trans (protectionPart_hitsOnly _ _)).ready.conclude s) (.kept {})
  · exact timesOut_next (timingOutcome_refl s)

/-- Before the settling the seconds counter alone moves (R162). -/
theorem execSecondsTick_timesOut (temp : BitVec 9) (s : State) : TimesOut s (execSecondsTick temp s) := by
  have ticked : TimingReady s (tickSeconds s temp) :=
    timingReady_of_states rfl (statesKept_of_tim rfl) rfl id
  have corrected : s.settled = true → TimingReady s (correct (tickSeconds s temp) false) := fun settled =>
    timingReady_of_settled ((settled_congr (correct_phase (tickSeconds s temp) false)).trans settled)
      fun tied => correct_tied false (ticked.tied tied)
  unfold execSecondsTick
  dsimp only
  split
  · next settled => exact everyNext_ite ((corrected settled).conclude s) (ticked.conclude s)
  · exact timesOut_next (.kept {})

theorem execListenEnd_timesOut (s : State) : TimesOut s (execListenEnd s) := by
  have runs : TimingReady s { s with phase := .running, listenTimer := none } := timingReady_of_settled rfl id
  unfold execListenEnd
  split
  · refine timesOut_ite ((runs.trans ?_).conclude s)
    exact (foldl_hitsOnly placeRecord_hitsOnly (idx 16) _).ready.trans
      ((unheardEval_hitsOnly _).trans (requestTrigger_hitsOnly _)).ready
  all_goals exact timesOut_next (timingOutcome_refl s)

/-- A gate that starts is the candidate's alone (R135). -/
theorem execGateStart_timesOut (c : Cand) (s : State) : TimesOut s (execGateStart c s) := by
  have gate : ∀ x, (s.setCand c { s.cand c with gate := true }).cand x =
      { s.cand x with gate := if c = x then true else (s.cand x).gate } := fun x => by
    rw [setCand_cand]
    split
    · next same => rw [same]
    · rfl
  exact timesOut_ite (.kept { sources := { noEdges := fun x => by rw [gate] }, cands := fun x => by simp [gate] })

/-- Every command: an event ends by the handing on of what it left ready, and any other leaves the timing blocks or
starts the station. -/
theorem exec_timesOut (i : Instr) (s : State) : TimesOut s (exec i s) := by
  have event : ∀ {c : Prop} [Decidable c] {u : State}, HitsOnly s u →
      TimesOut s (if c then .next (conclude s u) else .next s) := fun h => timesOut_ite (h.ready.conclude s)
  have untouched : ∀ {t : State}, t.tim = s.tim → t.freq = s.freq → t.phase = s.phase → HitsOnly s t :=
    hitsOnly_of_tim
  cases hr : requestOf i with
  | some r =>
    obtain ⟨src, tgt, payload⟩ := r
    rw [exec_of_requestOf s hr]
    exact timesOut_next (requestArrives_timingOutcome s src tgt payload)
  | none =>
    cases i with
    | fullReset straps => exact timesOut_next (fullReset_timingOutcome s straps)
    | configReadEnd r temp => exact execConfigReadEnd_timesOut r temp s
    | configReadTimeout temp => exact execConfigReadTimeout_timesOut temp s
    | slotCompletion => exact execSlotCompletion_timesOut s
    | lineActivity => exact timesOut_next (.kept {})
    | lineIdle => exact timesOut_next (.kept (lineQuiet_timingKept s))
    | frameArrival bits => exact execFrameArrival_timesOut bits s
    | attemptStart elapsed => exact execAttemptStart_timesOut elapsed s
    | collision straps => exact execCollision_timesOut straps s
    | frameSent straps => exact execFrameSent_timesOut straps s
    | sampleAnswer a => exact timesOut_ite (.kept {})
    | spacingTimerExpiry => exact timesOut_ite (.kept {})
    | routineTimerExpiry => exact timesOut_ite (.kept {})
    | linefaultTimerExpiry => exact event (untouched rfl rfl rfl)
    | peerExpiry n => exact event ((setPeer_hitsOnly s n _).trans (unheardEval_hitsOnly _))
    | quarantineEnd n => exact event (untouched rfl rfl rfl)
    | silenceTimerExpiry =>
      exact event (untouched (requestTrigger_tim _) (requestTrigger_freq _) (requestTrigger_phase _))
    | unheardTimerExpiry =>
      exact event (untouched (requestTrigger_tim _) (requestTrigger_freq _) (requestTrigger_phase _))
    | holdoffExpiry p => exact event (updRec_hitsOnly s p _)
    | claimWindowExpiry w => exact execClaimWindowExpiry_timesOut w s
    | wtrExpiry p => exact event (protectionPart_hitsOnly s _)
    | driverAnswer a => exact execDriverAnswer_timesOut a s
    | allowanceExpiry => exact execAllowanceExpiry_timesOut s
    | recoveryTimerExpiry p sp => exact event (setDport_hitsOnly s p _)
    | retryTimerExpiry p => exact execRetryTimerExpiry_timesOut p s
    | stepTimerExpiry => exact execStepTimerExpiry_timesOut s
    | edgeLoss c => exact timesOut_ite_settled settled_of_takesEvents rfl id
    | edgeReturn c => exact timesOut_ite_settled settled_of_takesEvents (edgeBack_phase s c) (edgeBack_tied c)
    | gateCompletion c count =>
      exact timesOut_ite_settled left_of_and (completeGate_phase s c count) (completeGate_tied c count)
    | gateOverrun c => exact timesOut_ite_settled left_of_and rfl id
    | secondsTick temp => exact execSecondsTick_timesOut temp s
    | holdoverLimitExpiry => exact timesOut_ite_settled (fun taken => left_of_and (left_of_and taken)) rfl id
    | listenEnd => exact execListenEnd_timesOut s
    | gateStart c => exact execGateStart_timesOut c s
    | _ => cases hr

/-! ## Every step -/

/-- The passing of 10 ms moves timers and ages alone. -/
theorem tick_timingKept (s : State) : TimingKept s (tick s) where
  sources :=
    { isolated := by simp only [tick]
      upstream := upstream_congr rfl fun n => by simp [State.peer, tick, PeerRec.tick]
      selection := fun p => by simp [State.prec, tick, PortRec.tick] }

/-- A step is a command of the state with the queue's rest, or lets time pass. -/
theorem step_timingOutcome {s t : State} (h : step s = .next t) : ∃ u, TimingKept s u ∧ TimingOutcome u t := by
  unfold step at h
  split at h
  · next i rest _ => exact ⟨{ s with pending := rest }, {}, exec_timesOut i _ t h⟩
  · cases h; exact ⟨s, {}, .kept (tick_timingKept s)⟩

/-- Settles O44: each outcome of a command keeps the invariant. -/
theorem selectionStaysQualified : Obligations.SelectionStaysQualified := by
  intro s t sound h
  obtain ⟨u, unqueued, outcome⟩ := step_timingOutcome h
  exact outcome.sound (unqueued.sound sound)

/-- Settles O45: what is announced is worked out at the end of every event that may change it. -/
theorem announcedTimingFollowsItsRules : Obligations.AnnouncedTimingFollowsItsRules := by
  intro s t sound h
  obtain ⟨u, unqueued, outcome⟩ := step_timingOutcome h
  exact outcome.announceSound (unqueued.announceSound sound)

end Sys2Proof.Machine
end

section
/-! SUPPORT. Edges, gate starts and gate overruns of a candidate (O39). -/

namespace Sys2Proof.Machine

theorem setCand_frame (s : State) (c : Cand) (r : CandRec) : EventFrame s (s.setCand c r) := { EventFrame.refl s with }

/-- An event that writes one candidate moves no other's d or hit mark. -/
theorem conclude_cand_rest_of_ne (s0 : State) {s u : State} {c : Cand} (running : u.phase = .running)
    (others : ∀ x, x ≠ c → u.cand x = s.cand x) (x : Cand) (h : x ≠ c) :
    ((conclude s0 u).cand x).d = (s.cand x).d ∧ ((conclude s0 u).cand x).hit = (s.cand x).hit := by
  rw [← others x h]; exact conclude_cand_rest s0 running x

theorem setCand_cand_ne (s : State) (c : Cand) (r : CandRec) (x : Cand) (h : x ≠ c) :
    (s.setCand c r).cand x = s.cand x := by
  rw [setCand_cand, if_neg h.symm]

/-! ## The edge test (R132, R133) -/

/-- The state with the edge test of a candidate as given. -/
def State.withEdgeTest (s : State) (c : Cand) (noEdges : Bool) : State :=
  s.setCand c { s.cand c with noEdges := noEdges }

@[simp] theorem withEdgeTest_same (s : State) (c : Cand) (b : Bool) :
    (s.withEdgeTest c b).cand c = { s.cand c with noEdges := b } := setCand_same s c _

/-- The missing edge is the first cause of a candidate with an edge test (R146). -/
theorem failCauses_of_noEdges {s : State} {c : Cand} (line : (lineOf c).isNone = true)
    (h : (s.cand c).noEdges = true) : s.failCauses c = .noEdges :: (s.withEdgeTest c false).failCauses c := by
  rw [Option.isNone_iff_eq_none] at line
  unfold State.failCauses
  by_cases isBay : c = bay
  · subst isBay
    have upstream : (s.withEdgeTest bay false).upstream = s.upstream := rfl
    simp only [if_true, State.bayCauses, h, withEdgeTest_same, upstream]
    rfl
  · simp [isBay, line, h]

/-- A line candidate has no edge test (R135). -/
theorem isNone_lineOf_of_failCauses {s : State} {c : Cand} (h : s.failCauses c = [.noEdges]) :
    (lineOf c).isNone = true := by
  by_cases isBay : c = bay
  · subst isBay; decide
  cases line : lineOf c with
  | none => rfl
  | some i =>
    simp only [State.failCauses, isBay, line, if_false] at h
    split at h <;> cases h

theorem withEdgeTest_fails_true {s : State} {c : Cand} (line : (lineOf c).isNone = true) :
    (s.withEdgeTest c true).fails c = true := by
  rw [State.fails, failCauses_of_noEdges line (by simp)]; rfl

theorem withEdgeTest_fails_false {s : State} {c : Cand} (h : (s.cand c).noEdges = true)
    (only : s.failCauses c = [.noEdges]) : (s.withEdgeTest c false).fails c = false := by
  have causes := failCauses_of_noEdges (isNone_lineOf_of_failCauses only) h
  rw [only, List.cons.injEq] at causes
  obtain ⟨-, none⟩ := causes
  rw [State.fails, ← none]; rfl

theorem takesEvents_of_running {s : State} {c : Cand} (running : s.phase = .running)
    (used : (s.cand c).state ≠ .unused) : s.takesEvents c = true := by
  simp [State.takesEvents, settled_of_running running, used]

/-! ## EDGE_LOSS -/

theorem edgeLoss_of_used {s : State} {c : Cand} (running : s.phase = .running) (line : (lineOf c).isNone = true)
    (used : (s.cand c).state ≠ .unused) :
    exec (.edgeLoss c) s = .next (conclude s (s.withEdgeTest c true)) := by
  change execEdgeLoss c s = _
  unfold execEdgeLoss
  rw [takesEvents_of_running running used, line]
  rfl

/-- A candidate without signal fail that loses its edges (R134). -/
theorem edgeLoss_cand {s : State} {c : Cand} (running : s.phase = .running) (line : (lineOf c).isNone = true)
    (used : (s.cand c).state ≠ .unused) (sound : (s.cand c).sigFail = false) :
    (conclude s (s.withEdgeTest c true)).cand c = { s.cand c with
      noEdges := true, sigFail := true, gate := false, f := none, good := 0
      state := if (s.cand c).state = .lockedout then .lockedout else .failed } := by
  have used' : ((s.withEdgeTest c true).cand c).state ≠ .unused := by simpa using used
  rw [conclude_cand s (s := s.withEdgeTest c true) running, judgedCand_of_used used', withEdgeTest_fails_true line,
    withEdgeTest_same]
  unfold CandRec.judged
  cases state : (s.cand c).state with
  | unused => exact absurd state used
  | failed | qualifying | qualified | lockedout => simp [sound]

/-! ## EDGE_RETURN -/

theorem edgeReturn_with_edges {s : State} {c : Cand} (edges : (s.cand c).noEdges = false) :
    exec (.edgeReturn c) s = .next s := by
  change execEdgeReturn c s = _
  simp [execEdgeReturn, edges]

theorem edgeReturn_of_used {s : State} {c : Cand} (running : s.phase = .running)
    (absent : (s.cand c).noEdges = true) (used : (s.cand c).state ≠ .unused) :
    exec (.edgeReturn c) s = .next (conclude s (edgeBack s c)) := by
  change execEdgeReturn c s = _
  unfold execEdgeReturn
  rw [takesEvents_of_running running used, absent]
  rfl

/-- The state in which the returning edge has started a FAILED candidate's gate (log 25). -/
def State.gateAtEdge (s : State) (c : Cand) : State :=
  (s.withEdgeTest c false).setCand c { ((s.withEdgeTest c false).cand c).judged false with gate := true }

theorem edgeBack_of_failed {s : State} {c : Cand} (failed : (s.cand c).state = .failed)
    (fails : (s.withEdgeTest c false).fails c = false) : edgeBack s c = s.gateAtEdge c := if_pos ⟨failed, fails⟩

theorem edgeBack_of_not_failed {s : State} {c : Cand} (h : (s.cand c).state ≠ .failed) :
    edgeBack s c = s.withEdgeTest c false :=
  if_neg fun ⟨failed, _⟩ => h failed

theorem gateAtEdge_same (s : State) (c : Cand) : (s.gateAtEdge c).cand c =
    { ({ s.cand c with noEdges := false } : CandRec).judged false with gate := true } := by
  rw [State.gateAtEdge, setCand_same, withEdgeTest_same]

theorem gateAtEdge_sources (s : State) (c : Cand) : SameSources (s.withEdgeTest c false) (s.gateAtEdge c) where
  noEdges x := by
    rw [State.gateAtEdge, setCand_cand]
    split
    · next same =>
      obtain ⟨-, -, noEdges⟩ := CandRec.judged_rest ((s.withEdgeTest c false).cand c) false
      rw [← same]
      exact noEdges
    · rfl

/-- The candidate after the returning edge has ended its only cause (R134, R141). -/
theorem edgeReturn_cand {s : State} {c : Cand} (running : s.phase = .running) (absent : (s.cand c).noEdges = true)
    (sigFail : (s.cand c).sigFail = true) (state : (s.cand c).state = .failed ∨ (s.cand c).state = .lockedout)
    (only : s.failCauses c = [.noEdges]) : (conclude s (edgeBack s c)).cand c = { s.cand c with
      noEdges := false, sigFail := false, good := 0
      gate := if (s.cand c).state = .failed then true else (s.cand c).gate
      state := if (s.cand c).state = .failed then .qualifying else .lockedout } := by
  have fails := withEdgeTest_fails_false absent only
  rw [conclude_cand s ((edgeBack_phase s c).trans running)]
  rcases state with failed | locked
  · have judged : ((s.gateAtEdge c).cand c).sigFail = (s.gateAtEdge c).fails c := by
      rw [(gateAtEdge_sources s c).fails, fails, gateAtEdge_same]
      exact CandRec.judged_sigFail _ _
    rw [edgeBack_of_failed failed fails, judgedCand_of_agrees (.inr judged), gateAtEdge_same]
    simp [CandRec.judged, sigFail, failed]
  · have notFailed : (s.cand c).state ≠ .failed := by rw [locked]; decide
    have used : ((s.withEdgeTest c false).cand c).state ≠ .unused := by simp [locked]
    rw [edgeBack_of_not_failed notFailed, judgedCand_of_used used, fails, withEdgeTest_same]
    simp [CandRec.judged, sigFail, locked]

theorem edgeBack_cand_ne (s : State) (c x : Cand) (h : x ≠ c) : (edgeBack s c).cand x = s.cand x := by
  have tested : (s.withEdgeTest c false).cand x = s.cand x := setCand_cand_ne s c _ x h
  unfold edgeBack
  dsimp only
  split
  · exact (setCand_cand_ne _ c _ x h).trans tested
  · exact tested

theorem edgeBack_frame (s : State) (c : Cand) : EventFrame s (edgeBack s c) := by
  have tested := setCand_frame s c { s.cand c with noEdges := false }
  unfold edgeBack
  dsimp only
  split
  · exact tested.trans (setCand_frame _ c _)
  · exact tested

/-! ## GATE_START (R135) -/

theorem wantsGate_of {r : CandRec} (noGate : r.gate = false)
    (h : r.state = .qualifying ∨ r.state = .qualified ∨ r.state = .lockedout ∧ r.sigFail = false) :
    r.wantsGate = true := by
  rcases h with state | state | ⟨state, sigFail⟩
  · simp [CandRec.wantsGate, noGate, state]
  · simp [CandRec.wantsGate, noGate, state]
  · simp [CandRec.wantsGate, noGate, state, sigFail]

theorem wantsGate_eq_false {r : CandRec}
    (h : r.gate = true ∨ r.state = .unused ∨ r.state = .failed ∨ r.state = .lockedout ∧ r.sigFail = true) :
    r.wantsGate = false := by
  rcases h with gate | state | state | ⟨state, sigFail⟩
  · simp [CandRec.wantsGate, gate]
  · simp [CandRec.wantsGate, state]
  · simp [CandRec.wantsGate, state]
  · simp [CandRec.wantsGate, state, sigFail]

theorem gateStart_of_wanted {s : State} {c : Cand} (running : s.phase = .running)
    (wanted : (s.cand c).wantsGate = true) :
    exec (.gateStart c) s = .next (s.setCand c { s.cand c with gate := true }) := by
  change execGateStart c s = _
  unfold execGateStart
  rw [settled_of_running running, wanted]
  rfl

theorem gateStart_of_not_wanted {s : State} {c : Cand} (h : (s.cand c).wantsGate = false) :
    exec (.gateStart c) s = .next s := by
  change execGateStart c s = _
  simp [execGateStart, h]

/-! ## GATE_OVERRUN (R134, R135) -/

theorem gateOverrun_of_gate {s : State} {c : Cand} (running : s.phase = .running) (gate : (s.cand c).gate = true) :
    exec (.gateOverrun c) s = .next (conclude s (s.setCand c (s.cand c).overrun)) := by
  change execGateOverrun c s = _
  unfold execGateOverrun
  rw [settled_of_running running, gate]
  rfl

/-- A write of a candidate that leaves its edge test leaves what signal fails are judged from. -/
theorem setCand_sources {s : State} {c : Cand} {r : CandRec} (h : r.noEdges = (s.cand c).noEdges) :
    SameSources s (s.setCand c r) where
  noEdges x := by
    rw [setCand_cand]
    split
    · next same => rw [← same, h]
    · rfl

/-- A candidate whose signal fail stands as judged keeps what an overrun has made of it. -/
theorem gateOverrun_cand {s : State} {c : Cand} (running : s.phase = .running) (sound : (s.cand c).sigFail = false)
    (fails : s.fails c = false) :
    (conclude s (s.setCand c (s.cand c).overrun)).cand c = (s.cand c).overrun := by
  have sources : SameSources s (s.setCand c (s.cand c).overrun) := setCand_sources rfl
  have judged : (s.cand c).overrun.sigFail = s.fails c := sound.trans fails.symm
  rw [conclude_cand s (s := s.setCand c (s.cand c).overrun) running, judgedCand_of_agrees, setCand_same]
  rw [setCand_same, sources.fails]
  exact .inr judged

theorem overrun_not_qualified (r : CandRec) : r.overrun.state ≠ .qualified := by
  unfold CandRec.overrun
  dsimp only
  split
  · decide
  · assumption

/-- Settles O39: each event writes its candidate, and its end judges that candidate and makes the selection anew. -/
theorem edgesAndGatesOfACandidate : Obligations.EdgesAndGatesOfACandidate := by
  intro c s running
  refine ⟨fun line used sound => ?_, fun absent sigFail state only => ?_, fun edges => edgeReturn_with_edges edges,
    fun noGate wants => gateStart_of_wanted running (wantsGate_of noGate wants),
    fun barred => gateStart_of_not_wanted (wantsGate_eq_false barred),
    fun gate used sound fails => ?_⟩
  · have lost := edgeLoss_cand running line used sound
    refine ⟨_, edgeLoss_of_used running line used, lost, ?_, conclude_cand_rest_of_ne s running
      (fun x h => setCand_cand_ne s c _ x h), (setCand_frame s c _).trans (conclude_frame s _)⟩
    refine conclude_not_selected s (s := s.withEdgeTest c true) running ?_
    rw [lost]
    dsimp only
    split <;> decide
  · have used : (s.cand c).state ≠ .unused := by rcases state with state | state <;> rw [state] <;> decide
    exact ⟨_, edgeReturn_of_used running absent used, edgeReturn_cand running absent sigFail state only,
      conclude_cand_rest_of_ne s ((edgeBack_phase s c).trans running) (edgeBack_cand_ne s c),
      (edgeBack_frame s c).trans (conclude_frame s _)⟩
  · have overrun := gateOverrun_cand running sound fails
    refine ⟨_, gateOverrun_of_gate running gate, overrun, ?_, conclude_cand_rest_of_ne s running
      (fun x h => setCand_cand_ne s c _ x h), (setCand_frame s c _).trans (conclude_frame s _)⟩
    refine conclude_not_selected s (s := s.setCand c _) running ?_
    rw [overrun]
    exact overrun_not_qualified _

end Sys2Proof.Machine
end

section
/-! SUPPORT. The completion of a gate (O41): the candidate measured and judged, the selection made anew, the correction
event of the selected candidate, and an event's end that finds nothing left to do. -/

namespace Sys2Proof.Machine

/-! ## An event's end that finds the references settled -/

theorem tab_tget {α : Type} {n : Nat} (v : Vector α n) : tab (tget v) = v :=
  Vector.ext fun i h => by simp [tab, tget]

theorem judgeFails_of_agrees {s : State} (h : ∀ c, (s.cand c).state = .unused ∨ (s.cand c).sigFail = s.fails c) :
    judgeFails s = s := by
  have cands : tab s.judgedCand = s.tim.cands := by
    have kept : s.judgedCand = tget s.tim.cands := funext fun c => judgedCand_of_agrees (h c)
    rw [kept, tab_tget]
  change { s with tim := { s.tim with cands := tab s.judgedCand } } = s
  rw [cands]

/-- Every used candidate's signal fail is as its causes give it, and the selection is the one that would be made. -/
structure ReferencesSettled (s : State) : Prop where
  judged : ∀ c, (s.cand c).state = .unused ∨ (s.cand c).sigFail = s.fails c
  chosen : s.select = s.tim.selection

section

variable {s : State} (h : ReferencesSettled s) (s0 : State) (running : s.phase = .running)
include h running

theorem ReferencesSettled.conclude_cand (c : Cand) : (conclude s0 s).cand c = s.cand c := by
  rw [Machine.conclude_cand s0 running, judgedCand_of_agrees (h.judged c)]

theorem ReferencesSettled.conclude_selection : (conclude s0 s).tim.selection = s.tim.selection := by
  rw [Machine.conclude_selection s0 running, judgeFails_of_agrees h.judged, h.chosen]

theorem ReferencesSettled.conclude_freq : (conclude s0 s).freq = s.freq := by
  obtain ⟨sources, tim⟩ := readied_sources running
  have judged : judgeFails s.readied = s.readied := judgeFails_of_agrees fun c => by
    rw [State.cand, tim, sources.fails]
    exact h.judged c
  have chosen : s.readied.select = s.readied.tim.selection := by
    rw [select_congr tim sources.config sources.upstream, tim, h.chosen]
  rw [Machine.conclude_freq, handOn_eq, timing_freq (readied_settled running), judged, reselect_of_same chosen,
    readied_of_running running, arbitrate_freq, protect_freq]

end

/-! ## The candidate at a completion (R136, R149, R150) -/

/-- The judgement moves the state and the good-gate count. -/
theorem CandRec.completed_rest (r : CandRec) (g : Config) (d : Int) (sat : Bool) : r.completed g d sat =
    { r with state := (r.completed g d sat).state, good := (r.completed g d sat).good } := by
  unfold CandRec.completed
  split
  · split <;> rfl
  · split
    · split <;> rfl
    · rfl

/-- No candidate becomes UNUSED, or ceases to be, by its gate. -/
theorem CandRec.completed_unused (r : CandRec) (g : Config) (d : Int) (sat : Bool) :
    (r.completed g d sat).state = .unused ↔ r.state = .unused := by
  unfold CandRec.completed
  split
  · split
    · next judged => rcases judged with state | state <;> simp [state]
    · rfl
  · split
    · next judged => split <;> simp [judged.1]
    · rfl

/-- F after a completion with this count (R150). -/
def CandRec.filtered (r : CandRec) (count : Nat) : Int := filter r.f (measure count).1

/-- The candidate after steps 1 to 3 of a completion: measured, its hit mark cleared, and judged. -/
def State.measuredCand (s : State) (c : Cand) (count : Nat) : CandRec :=
  ({ s.cand c with
      d := some (measure count), f := some ((s.cand c).filtered count), hit := false } : CandRec).completed s.config
    (measure count).1 (measure count).2

theorem measuredCand_rest (s : State) (c : Cand) (count : Nat) :
    (s.measuredCand c count).f = some ((s.cand c).filtered count) ∧
      (s.measuredCand c count).noEdges = (s.cand c).noEdges ∧
      (s.measuredCand c count).sigFail = (s.cand c).sigFail := by
  unfold State.measuredCand
  rw [CandRec.completed_rest]
  exact ⟨rfl, rfl, rfl⟩

/-- The state after them. -/
def State.withMeasured (s : State) (c : Cand) (count : Nat) : State := s.setCand c (s.measuredCand c count)

theorem completeGate_eq (s : State) (c : Cand) (count : Nat) : completeGate s c count =
    if (reselect (s.withMeasured c count)).tim.selection = some c then
      correct (reselect (s.withMeasured c count)) (s.cand c).hit
    else reselect (s.withMeasured c count) := rfl

theorem withMeasured_cand (s : State) (c : Cand) (count : Nat) (x : Cand) :
    (s.withMeasured c count).cand x = if c = x then s.measuredCand c count else s.cand x := setCand_cand s c x _

theorem withMeasured_sources (s : State) (c : Cand) (count : Nat) : SameSources s (s.withMeasured c count) := by
  obtain ⟨-, noEdges, -⟩ := measuredCand_rest s c count
  exact setCand_sources noEdges

/-- The gate leaves every signal fail as judged. -/
theorem withMeasured_judged {s : State} (c : Cand) (count : Nat)
    (judged : ∀ x, (s.cand x).state = .unused ∨ (s.cand x).sigFail = s.fails x) (x : Cand) :
    ((s.withMeasured c count).cand x).state = .unused ∨
      ((s.withMeasured c count).cand x).sigFail = (s.withMeasured c count).fails x := by
  obtain ⟨-, -, sigFail⟩ := measuredCand_rest s c count
  rw [withMeasured_cand, (withMeasured_sources s c count).fails]
  split
  · next same =>
    rw [← same, sigFail]
    exact (judged c).imp_left (CandRec.completed_unused _ _ _ _).2
  · exact judged x

/-! ## The frame -/

theorem EventFrame.withFreq {s t : State} (f : EventFrame s t) (q : Frequency) :
    EventFrame { s with freq := q } { t with freq := q } :=
  { f with seconds := rfl, temp := rfl, k := rfl, target := rfl, history := rfl }

/-- A correction event writes the Frequency Unit, and may ask for a triggered announce. -/
theorem correct_eq (s : State) (hit : Bool) :
    ∃ b, correct s hit = triggerIf b { s with freq := (correct s hit).freq } := by
  have written : ∃ b q, correct s hit = triggerIf b { s with freq := q } := ⟨_, _, rfl⟩
  obtain ⟨b, q, eq⟩ := written
  have freq : (correct s hit).freq = q := by rw [eq, triggerIf_freq]
  exact ⟨b, by rw [freq]; exact eq⟩

theorem correct_frame (s : State) (hit : Bool) :
    EventFrame { s with freq := (correct s hit).freq } (correct s hit) := by
  obtain ⟨b, eq⟩ := correct_eq s hit
  generalize (correct s hit).freq = q at eq ⊢
  rw [eq]
  exact triggerIf_frame b _

theorem correct_sources (s : State) (hit : Bool) : SameSources s (correct s hit) := by
  obtain ⟨b, eq⟩ := correct_eq s hit
  have frame : EventFrame { s with freq := (correct s hit).freq } (correct s hit) := correct_frame s hit
  exact { frame.sameSources (fun p => by rw [eq, State.prec, triggerIf_prot]; rfl) (fun c => by
    rw [State.cand, correct_tim]; rfl) with }

/-! ## The completion -/

theorem completeGate_tim (s : State) (c : Cand) (count : Nat) :
    (completeGate s c count).tim = (s.withMeasured c count).withSelect.tim := by
  have chosen : (reselect (s.withMeasured c count)).tim = (s.withMeasured c count).withSelect.tim := reselect_tim _
  rw [completeGate_eq, ← chosen]
  split
  · exact correct_tim _ _
  · rfl

theorem completeGate_cand (s : State) (c : Cand) (count : Nat) (x : Cand) :
    (completeGate s c count).cand x = (s.withMeasured c count).cand x := by
  rw [State.cand, completeGate_tim]; rfl

theorem completeGate_sources (s : State) (c : Cand) (count : Nat) :
    SameSources (s.withMeasured c count) (completeGate s c count) := by
  rw [completeGate_eq]
  split
  · exact (reselect_sources _).trans (correct_sources _ _)
  · exact reselect_sources _

/-- The end of the event finds nothing left to do for the references. -/
theorem completeGate_settled {s : State} (c : Cand) (count : Nat)
    (judged : ∀ x, (s.cand x).state = .unused ∨ (s.cand x).sigFail = s.fails x) :
    ReferencesSettled (completeGate s c count) := by
  have sources := completeGate_sources s c count
  have tim := completeGate_tim s c count
  refine ⟨fun x => ?_, ?_⟩
  · rw [completeGate_cand, sources.fails]
    exact withMeasured_judged c count judged x
  · rw [select_congr (s := (s.withMeasured c count).withSelect) tim sources.config sources.upstream, withSelect_select,
      tim]
    rfl

theorem completeGate_frame (s : State) (c : Cand) (count : Nat) :
    EventFrame { s with freq := (completeGate s c count).freq } (completeGate s c count) := by
  have chosen := (setCand_frame s c (s.measuredCand c count)).trans (reselect_frame _)
  rw [completeGate_eq]
  split
  · exact (chosen.withFreq _).trans (correct_frame _ _)
  · exact chosen.withFreq _

/-- Without a correction event K, T and the history stay (R136, R154). -/
theorem completeGate_not_selected {s : State} {c : Cand} (count : Nat)
    (h : (completeGate s c count).tim.selection ≠ some c) : let q := (completeGate s c count).freq
    q.k = s.freq.k ∧ q.t = s.freq.t ∧ q.history = s.freq.history := by
  have chosen : (reselect (s.withMeasured c count)).tim.selection = (completeGate s c count).tim.selection := by
    rw [completeGate_tim, reselect_tim]; rfl
  have frame := reselect_frame (s.withMeasured c count)
  rw [completeGate_eq, if_neg (by rw [chosen]; exact h)]
  exact ⟨frame.k, frame.target, frame.history⟩

/-- T of a selected candidate's completion is its F (R153). -/
theorem target_of_selected {s : State} {c : Cand} {f : Int} (tied : TimingTied s)
    (selected : s.tim.selection = some c) (filtered : (s.cand c).f = some f) : s.target = f := by
  have state : s.freq.state = .locked ∨ s.freq.state = .acquiring := tied.1 (by rw [selected]; rfl)
  unfold State.target
  rcases state with state | state <;> simp [state, selected, filtered]

/-- The correction event of the selected candidate. -/
theorem completeGate_selected {s : State} {c : Cand} (count : Nat) (tied : TimingTied s)
    (h : (completeGate s c count).tim.selection = some c) : (completeGate s c count).freq =
      (reselect (s.withMeasured c count)).freq.corrected ((s.cand c).filtered count)
        (slew s.config.slew ((s.cand c).filtered count) s.freq.k) (s.cand c).hit := by
  have chosen : (reselect (s.withMeasured c count)).tim.selection = some c := by
    rw [← h, completeGate_tim, reselect_tim]; rfl
  obtain ⟨filtered, -⟩ := measuredCand_rest s c count
  have measured : ((reselect (s.withMeasured c count)).cand c).f = some ((s.cand c).filtered count) := by
    rw [reselect_cand, withMeasured_cand, if_pos rfl, filtered]
  have tied' : TimingTied (s.withMeasured c count) := tied
  have target := target_of_selected (reselect_tied tied') chosen measured
  have frame := reselect_frame (s.withMeasured c count)
  have config : (reselect (s.withMeasured c count)).config = s.config := frame.config
  have k : (reselect (s.withMeasured c count)).freq.k = s.freq.k := frame.k
  rw [completeGate_eq, if_pos chosen, correct_freq, target, config, k]

/-- The lock test in ACQUIRING counts towards four or starts again, and the history waits for LOCKED (R155, R156). -/
theorem Frequency.corrected_of_acquiring {q : Frequency} (h : q.state = .acquiring) (f k : Int) (hit : Bool) :
    ((f - k).natAbs ≤ 16 → q.lock + 1 < 4 →
      (q.corrected f k hit).state = .acquiring ∧ (q.corrected f k hit).lock = q.lock + 1) ∧
    ((f - k).natAbs ≤ 16 → q.lock + 1 = 4 → (q.corrected f k hit).state = .locked) ∧
    (16 < (f - k).natAbs → (q.corrected f k hit).state = .acquiring ∧ (q.corrected f k hit).lock = 0) ∧
    (q.corrected f k hit).history = q.history := by
  refine ⟨fun near few => ?_, fun near fourth => ?_, fun far => ?_, ?_⟩
  · simp [Frequency.corrected, lockTest, h, near, Nat.ne_of_lt few]
  · simp [Frequency.corrected, lockTest, h, near, fourth]
  · simp [Frequency.corrected, lockTest, h, Nat.not_le.2 far]
  · simp [Frequency.corrected, h]

/-- The lock test in LOCKED feeds the history unless a hit withholds the append, or goes back to ACQUIRING. -/
theorem Frequency.corrected_of_locked {q : Frequency} (h : q.state = .locked) (f k : Int) (hit : Bool) :
    ((f - k).natAbs ≤ 64 → (q.corrected f k hit).state = .locked ∧
      (q.corrected f k hit).history = if hit then q.history else feed q.history k) ∧
    (64 < (f - k).natAbs → (q.corrected f k hit).state = .acquiring ∧ (q.corrected f k hit).lock = 0) ∧
    (64 < (f - k).natAbs → (q.corrected f k hit).history = q.history) := by
  refine ⟨fun near => ?_, fun far => ?_, fun far => ?_⟩
  · cases hit <;> simp [Frequency.corrected, lockTest, h, near]
  · simp [Frequency.corrected, lockTest, h, Nat.not_le.2 far]
  · simp [Frequency.corrected, lockTest, h, Nat.not_le.2 far]

/-- A selection that stood stands through the event, and the timing state with it. -/
theorem reselect_withMeasured_of_kept {s : State} {c : Cand} (count : Nat)
    (before : s.tim.selection = some c) (after : (completeGate s c count).tim.selection = some c) :
    (reselect (s.withMeasured c count)).freq = s.freq := by
  rw [completeGate_tim] at after
  have same : (s.withMeasured c count).select = (s.withMeasured c count).tim.selection := by
    change (s.withMeasured c count).select = s.tim.selection
    rw [before]; exact after
  rw [reselect_of_same same]
  rfl

theorem gateCompletion_of_gate {s : State} {c : Cand} (count : Nat) (running : s.phase = .running)
    (gate : (s.cand c).gate = true) :
    exec (.gateCompletion c count) s = .next (conclude s (completeGate s c count)) := by
  change execGateCompletion c count s = _
  unfold execGateCompletion
  rw [settled_of_running running, gate]
  rfl

/-- Settles O41: the event's end finds the references settled, so the Frequency Unit is as the completion left it. -/
theorem selectedCompletionCorrectsK : Obligations.SelectedCompletionCorrectsK := by
  intro c count s running sound gate _ _
  have tied : TimingTied s := sound.state
  have running' : (completeGate s c count).phase = .running := (completeGate_phase s c count).trans running
  have settled := completeGate_settled c count (sound.judged (settled_of_running running))
  have freq := settled.conclude_freq s running'
  have selection := settled.conclude_selection s running'
  refine ⟨_, gateCompletion_of_gate count running gate, fun selected => ?_, fun other => ?_, ?_⟩
  · rw [selection] at selected
    obtain ⟨filtered, -⟩ := measuredCand_rest s c count
    have corrected := completeGate_selected count tied selected
    refine ⟨(s.cand c).filtered count, ?_, ?_, ?_, fun before => ?_⟩
    · rw [settled.conclude_cand s running', completeGate_cand, withMeasured_cand, if_pos rfl, filtered]
    · rw [freq, corrected]; rfl
    · rw [freq, corrected]; rfl
    · rw [reselect_withMeasured_of_kept count before selected] at corrected
      rw [freq, corrected]
      rcases tied.1 (by rw [before]; rfl) with state | state
      · obtain ⟨near, far, history⟩ := s.freq.corrected_of_locked state ((s.cand c).filtered count)
          (slew s.config.slew ((s.cand c).filtered count) s.freq.k) (s.cand c).hit
        rw [state]
        exact ⟨nofun, nofun, nofun, fun _ => near, fun _ => far, fun size => history (size.resolve_left nofun)⟩
      · obtain ⟨counts, locks, far, history⟩ := s.freq.corrected_of_acquiring state ((s.cand c).filtered count)
          (slew s.config.slew ((s.cand c).filtered count) s.freq.k) (s.cand c).hit
        rw [state]
        exact ⟨fun _ => counts, fun _ => locks, fun _ => far, nofun, nofun, fun _ => history⟩
  · rw [selection] at other
    rw [freq]
    exact completeGate_not_selected count other
  · rw [freq]
    exact (completeGate_frame s c count).trans (conclude_frame s _)

end Sys2Proof.Machine
end

section
/-! SUPPORT. TREF (O58): the actions on the state the handler finds, and the selection at the event's end. -/

namespace Sys2Proof.Machine

/-! ## The parameters (R181) -/

/-- The candidate byte of a TREF request: 1 to 7. -/
theorem candOf_byte (c : Cand) : candOf (byte (c.val + 1)) = some c := by
  revert c; decide

theorem parse_trefForce (c : Cand) : parse [14, 1, byte (c.val + 1)] = some (.trefForce c) := by
  change (candOf _).map _ = _
  rw [candOf_byte]; rfl

theorem parse_trefClear : parse [14, 2, 0] = some .trefClear := rfl

theorem parse_trefLockoutOn (c : Cand) : parse [14, 3, byte (c.val + 1)] = some (.trefLockout c true) := by
  change (candOf _).map _ = _
  rw [candOf_byte]; rfl

theorem parse_trefLockoutOff (c : Cand) : parse [14, 4, byte (c.val + 1)] = some (.trefLockout c false) := by
  change (candOf _).map _ = _
  rw [candOf_byte]; rfl

/-! ## The candidates the handler finds -/

/-- The refresh of the sender may move a signal fail, and no lockout and no use (R134, R141). -/
theorem received_cand (s : State) (src : Station) (running : s.phase = .running) (c : Cand) :
    (((s.received src).cand c).state = .unused ↔ (s.cand c).state = .unused) ∧
      (((s.received src).cand c).state = .lockedout ↔ (s.cand c).state = .lockedout) := by
  have arrived : (refresh (lineQuiet s) src).cand c = s.cand c := by
    rw [State.cand, refresh, triggerIf_tim]; rfl
  have running' : (refresh (lineQuiet s) src).phase = .running := (triggerIf_phase _ _).trans running
  rw [State.received, handOn_cand running', judgedCand_unused, judgedCand_lockedout, arrived]
  exact ⟨Iff.rfl, Iff.rfl⟩

/-! ## The effects -/

theorem EventFrame.withForce {s t : State} (f : EventFrame s t) (x : Option Cand) :
    EventFrame { s with tim := { s.tim with force := x } } { t with tim := { t.tim with force := x } } :=
  { f with force := rfl }

theorem lockCand_frame (s : State) (c : Cand) (on : Bool) : EventFrame s (lockCand s c on) := by
  unfold lockCand
  dsimp only
  split
  · split
    · exact .refl s
    · exact setCand_frame s c _
  · split
    · exact setCand_frame s c _
    · exact .refl s

@[simp] theorem lockCand_phase (s : State) (c : Cand) (on : Bool) : (lockCand s c on).phase = s.phase := by
  unfold lockCand
  dsimp only
  split <;> split <;> rfl

theorem lockCand_on (s : State) (c : Cand) : ((lockCand s c true).cand c).state = .lockedout := by
  unfold lockCand
  simp only [if_true]
  split
  · assumption
  · rw [setCand_same]

/-- A candidate let back waits for its gates from count 0 (R141). -/
def CandRec.LetBack (r : CandRec) : Prop := r.good = 0 ∧ r.state = if r.sigFail then .failed else .qualifying

theorem lockCand_off {s : State} {c : Cand} (h : (s.cand c).state = .lockedout) :
    ((lockCand s c false).cand c).LetBack := by
  have written : lockCand s c false = s.setCand c
      { s.cand c with state := if (s.cand c).sigFail then .failed else .qualifying, good := 0 } := by
    simp [lockCand, h]
  rw [written, setCand_same]
  exact ⟨rfl, rfl⟩

theorem lockCand_off_of_not {s : State} {c : Cand} (h : (s.cand c).state ≠ .lockedout) : lockCand s c false = s := by
  simp [lockCand, h]

/-- The judgement at the event's end lets it back all the same. -/
theorem CandRec.LetBack.judged {r : CandRec} (h : r.LetBack) (fail : Bool) : (r.judged fail).LetBack := by
  obtain ⟨good, state⟩ := h
  unfold CandRec.judged
  split
  · exact ⟨good, state⟩
  · next moves =>
    cases fail <;> cases sigFail : r.sigFail <;> simp_all [CandRec.LetBack]

theorem CandRec.LetBack.judgedCand {s : State} {c : Cand} (h : (s.cand c).LetBack) : (s.judgedCand c).LetBack := by
  unfold State.judgedCand
  split
  · exact h
  · exact h.judged _

theorem CandRec.LetBack.not_lockedout {r : CandRec} (h : r.LetBack) : r.state ≠ .lockedout := by
  obtain ⟨-, state⟩ := h
  rw [state]
  split <;> decide

/-! ## The answers (R195) -/

/-- The response of a TREF that is executed: the selection and the timing state. -/
def State.trefAnswer (t : State) : List Byte := [14, 0, byte (candCode t.tim.selection), byte t.freq.state.code]

section

variable {s : State} {src : Station} {tgt : BitVec 6} (h : Takes s src tgt)
include h

/-- The timing blocks are as the event's end left them. -/
theorem Takes.done_timing {code : Byte} {params : List Byte} {r : Request} (parsed : parse (code :: params) = some r)
    (accepted : (s.received src).refusal r = none) :
    (requestArrives s src tgt (code :: params)).tim = (s.executed src r).tim ∧
      (requestArrives s src tgt (code :: params)).freq = (s.executed src r).freq := by
  rw [h.done parsed accepted]; exact ⟨rfl, rfl⟩

/-! ### FORCE and CLEAR (R140) -/

theorem Takes.force_refused {c : Cand} (bars : (s.cand c).state = .unused ∨ (s.cand c).state = .lockedout) :
    Answered s s (requestArrives s src tgt [14, 1, byte (c.val + 1)]) src [14, 3] := by
  obtain ⟨unused, lockedout⟩ := received_cand s src h.running c
  have refusal : (s.received src).refusal (.trefForce c) = some .state := if_pos (bars.imp unused.2 lockedout.2)
  exact h.refused (parse_trefForce c) refusal

theorem Takes.force_accepted {c : Cand} (bars : ¬((s.cand c).state = .unused ∨ (s.cand c).state = .lockedout)) :
    (s.received src).refusal (.trefForce c) = none := by
  obtain ⟨unused, lockedout⟩ := received_cand s src h.running c
  exact if_neg fun found => bars (found.imp unused.1 lockedout.1)

theorem Takes.force_answered {c : Cand} (bars : ¬((s.cand c).state = .unused ∨ (s.cand c).state = .lockedout)) :
    let t := requestArrives s src tgt [14, 1, byte (c.val + 1)]
    Answered s { s with tim := { s.tim with force := some c } } t src t.trefAnswer := by
  have effect := (received_frame s src).withForce (some c)
  dsimp only
  rw [h.done (parse_trefForce c) (h.force_accepted bars)]
  exact answered_done (r := .trefForce c) _ effect

/-- The forced candidate is the selection exactly when it is QUALIFIED. -/
theorem Takes.force_selects {c : Cand} (bars : ¬((s.cand c).state = .unused ∨ (s.cand c).state = .lockedout)) :
    let t := requestArrives s src tgt [14, 1, byte (c.val + 1)]
    t.tim.selection = if (t.cand c).state = .qualified then some c else none := by
  set x := requestEffect (s.received src) (.trefForce c) with hx
  have running : x.phase = .running := received_running src h.running
  have force : (judgeFails x).tim.force = some c := rfl
  obtain ⟨tim, -⟩ := h.done_timing (parse_trefForce c) (h.force_accepted bars)
  have tim : (requestArrives s src tgt [14, 1, byte (c.val + 1)]).tim = (conclude s x).tim := tim
  dsimp only
  rw [State.cand, tim, ← State.cand, conclude_selection s running, conclude_cand s running, ← judgeFails_cand,
    select_of_force force]

theorem Takes.clear_answered :
    let t := requestArrives s src tgt [14, 2, 0]
    Answered s { s with tim := { s.tim with force := none } } t src t.trefAnswer := by
  have effect := (received_frame s src).withForce none
  dsimp only
  rw [h.done parse_trefClear rfl]
  exact answered_done (r := .trefClear) _ effect

/-! ### LOCKOUT (R141) -/

theorem Takes.lockoutOn_refused {c : Cand} (bars : (s.cand c).state = .unused ∨ s.tim.force = some c) :
    Answered s s (requestArrives s src tgt [14, 3, byte (c.val + 1)]) src [14, 3] := by
  obtain ⟨unused, -⟩ := received_cand s src h.running c
  have force : (s.received src).tim.force = s.tim.force := (received_frame s src).force
  have refusal : (s.received src).refusal (.trefLockout c true) = some .state := by
    simp [State.refusal, unused, force, bars]
  exact h.refused (parse_trefLockoutOn c) refusal

theorem Takes.lockoutOn_accepted {c : Cand} (used : (s.cand c).state ≠ .unused) (free : s.tim.force ≠ some c) :
    (s.received src).refusal (.trefLockout c true) = none := by
  obtain ⟨unused, -⟩ := received_cand s src h.running c
  have force : (s.received src).tim.force = s.tim.force := (received_frame s src).force
  simp [State.refusal, unused, force, used, free]

/-- The candidate and the selection after a LOCKOUT that is executed. -/
theorem Takes.lockout_result {c : Cand} {on : Bool} {params : List Byte}
    (parsed : parse (14 :: params) = some (.trefLockout c on))
    (accepted : (s.received src).refusal (.trefLockout c on) = none) :
    let t := requestArrives s src tgt (14 :: params)
    Answered s s t src t.trefAnswer ∧ t.cand c = (lockCand (s.received src) c on).judgedCand c ∧
      ((t.cand c).state ≠ .qualified → t.tim.selection ≠ some c) := by
  have running : (lockCand (s.received src) c on).phase = .running :=
    (lockCand_phase _ c on).trans (received_running src h.running)
  obtain ⟨tim, freq⟩ := h.done_timing parsed accepted
  have tim : (requestArrives s src tgt (14 :: params)).tim = (conclude s (lockCand (s.received src) c on)).tim := tim
  have answered := h.done_answered parsed accepted (lockCand_frame _ c on)
  refine ⟨?_, ?_, ?_⟩
  · rw [State.trefAnswer, tim, freq]
    exact answered
  · rw [State.cand, tim, ← State.cand, conclude_cand s running]
  · rw [State.cand, tim, ← State.cand]
    exact conclude_not_selected s running

theorem Takes.lockoutOn {c : Cand} (used : (s.cand c).state ≠ .unused) (free : s.tim.force ≠ some c) :
    let t := requestArrives s src tgt [14, 3, byte (c.val + 1)]
    Answered s s t src t.trefAnswer ∧ (t.cand c).state = .lockedout ∧ t.tim.selection ≠ some c := by
  obtain ⟨answered, judged, out⟩ := h.lockout_result (parse_trefLockoutOn c) (h.lockoutOn_accepted used free)
  have locked := (judgedCand_lockedout _ c).2 (lockCand_on (s.received src) c)
  rw [← judged] at locked
  exact ⟨answered, locked, out (by rw [locked]; decide)⟩

theorem Takes.lockoutOff (c : Cand) :
    let t := requestArrives s src tgt [14, 4, byte (c.val + 1)]
    Answered s s t src t.trefAnswer ∧ (t.cand c).state ≠ .lockedout ∧
      ((s.cand c).state = .lockedout → (t.cand c).LetBack) := by
  obtain ⟨answered, judged, -⟩ := h.lockout_result (parse_trefLockoutOff c) rfl
  obtain ⟨-, lockedout⟩ := received_cand s src h.running c
  dsimp only
  rw [judged]
  by_cases locked : (s.cand c).state = .lockedout
  · have back := (lockCand_off (lockedout.2 locked)).judgedCand
    exact ⟨answered, back.not_lockedout, fun _ => back⟩
  · have found : ((s.received src).cand c).state ≠ .lockedout := fun found => locked (lockedout.1 found)
    rw [lockCand_off_of_not found, ne_eq, judgedCand_lockedout]
    exact ⟨answered, found, fun h => absurd h locked⟩

end

/-- Settles O58: each action by the state the handler finds, and the selection by the choice at the event's end. -/
theorem trefMovesTheSelection : Obligations.TrefMovesTheSelection := by
  intro src tgt c s h
  exact ⟨fun bars => ⟨_, rfl, h.force_refused bars⟩,
    fun bars => ⟨_, rfl, h.force_answered bars, h.force_selects bars⟩, ⟨_, rfl, h.clear_answered⟩,
    fun bars => ⟨_, rfl, h.lockoutOn_refused bars⟩, fun used free => ⟨_, rfl, h.lockoutOn used free⟩,
    ⟨_, rfl, h.lockoutOff c⟩⟩

end Sys2Proof.Machine
end

section
/-! SUPPORT. K over every command (O43): a correction event moves it by the slew, and nothing else but a full reset moves
it at all. -/

namespace Sys2Proof.Machine

/-! ## The slew (R154) -/

theorem slew_bounds (step : Nat) (t k : Int) : -32767 ≤ slew step t k ∧ slew step t k ≤ 32767 := clampInt_bounds 32767 _

/-- The clamp to ±32767 brings K no further from where it stood. -/
theorem slew_natAbs_le {k : Int} (lo : -32767 ≤ k) (hi : k ≤ 32767) (step : Nat) (t : Int) :
    (slew step t k - k).natAbs ≤ step := by
  obtain ⟨back, forth⟩ := clampInt_bounds step (t - k)
  unfold slew
  generalize clampInt step (t - k) = d at back forth ⊢
  unfold clampInt
  split
  · omega
  · split <;> omega

/-! ## The operations that leave K -/

@[simp] theorem handOn_k (s : State) : (handOn s).freq.k = s.freq.k := (handOn_frame s).k

theorem conclude_k (s0 s : State) : (conclude s0 s).freq.k = s.freq.k := (conclude_frame s0 s).k

theorem HitsOnly.k {s t : State} (h : HitsOnly s t) : t.freq.k = s.freq.k := by rw [h.freq]

@[simp] theorem lockCand_freq (s : State) (c : Cand) (on : Bool) : (lockCand s c on).freq = s.freq := by
  unfold lockCand
  dsimp only
  split <;> split <;> rfl

@[simp] theorem edgeBack_freq (s : State) (c : Cand) : (edgeBack s c).freq = s.freq := by
  unfold edgeBack
  dsimp only
  split <;> rfl

/-- No request reaches the Frequency Unit. -/
@[simp] theorem requestEffect_freq (s : State) (r : Request) : (requestEffect s r).freq = s.freq := by
  cases r with
  | trefLockout c on => exact lockCand_freq s c on
  | lrn rc => exact (learn_hitsOnly s rc).freq
  | lrnAll => exact (foldl_hitsOnly learn_hitsOnly (idx 20) s).freq
  | capr => exact (readCapture_hitsOnly s).freq
  | clrl => exact (clearLatches_hitsOnly s).freq
  | aco => exact (acknowledge_hitsOnly s).freq
  | slk sp on => exact triggerIf_freq _ _
  | swpStart sp m n k f => exact (sweepStart_hitsOnly s sp m n k f).freq
  | swpStop => exact (sweepStop_hitsOnly s).freq
  | stat | view | portPart | spar | timgStation | timgCand | logr | mask | force | manual | lockout | clear
  | trefForce | trefClear | swpStep | pairClear | rsta => rfl

theorem beginWork_k (s : State) (g : Config) (cfgdef : Bool) (temp : BitVec 9) :
    (beginWork s g cfgdef temp).freq.k = s.freq.k := by
  rw [beginWork_eq]
  exact (foldl_hitsOnly queryUsed_hitsOnly (idx 16) _).k

theorem settle_k (s : State) (i : RawImage) (failed : Bool) (temp : BitVec 9) :
    (settle s i failed temp).freq.k = s.freq.k := (conclude_k s _).trans (beginWork_k s _ _ temp)

theorem readFailed_k (s : State) (second : Bool) (temp : BitVec 9) : (readFailed s second temp).freq.k = s.freq.k := by
  unfold readFailed
  split
  · exact settle_k s _ _ temp
  · rfl

/-- A restart keeps K (R162). -/
theorem restart_k (s : State) (straps : BitVec 5) : (restart s straps).freq.k = s.freq.k := rfl

/-! ## Requests and frames -/

/-- The handling of a request is the end of the event, with the effect of at most one request before it and at most one
response after it (R179, R180). -/
theorem takeRequest_ends (s0 s : State) (src : Station) (all : Bool) (payload : List Byte) : ∃ u,
    (u = s ∨ ∃ r, u = requestEffect s r) ∧ (takeRequest s0 s src all payload = conclude s0 u ∨
      ∃ code x data, takeRequest s0 s src all payload = respond (conclude s0 u) src code x data) := by
  unfold takeRequest
  dsimp only
  split
  · exact ⟨s, .inl rfl, .inl rfl⟩
  split
  · unfold takeForAll
    split
    · split
      · exact ⟨_, .inr ⟨.aco, rfl⟩, .inl rfl⟩
      · exact ⟨_, .inr ⟨.clrl, rfl⟩, .inl rfl⟩
      · exact ⟨s, .inl rfl, .inl rfl⟩
    · exact ⟨s, .inl rfl, .inl rfl⟩
  split
  · exact ⟨s, .inl rfl, .inl rfl⟩
  split
  · exact ⟨s, .inl rfl, .inr ⟨_, _, _, rfl⟩⟩
  split
  · exact ⟨s, .inl rfl, .inr ⟨_, _, _, rfl⟩⟩
  split
  · exact ⟨s, .inl rfl, .inr ⟨_, _, _, rfl⟩⟩
  · unfold takeValid
    split
    · exact ⟨s, .inl rfl, .inr ⟨_, _, _, rfl⟩⟩
    · exact ⟨_, .inr ⟨_, rfl⟩, .inr ⟨_, _, _, rfl⟩⟩

theorem takeRequest_k (s0 s : State) (src : Station) (all : Bool) (payload : List Byte) :
    (takeRequest s0 s src all payload).freq.k = s.freq.k := by
  obtain ⟨u, effect, ends⟩ := takeRequest_ends s0 s src all payload
  have kept : u.freq.k = s.freq.k := by
    rcases effect with rfl | ⟨r, rfl⟩
    · rfl
    · rw [requestEffect_freq]
  rcases ends with eq | ⟨code, x, data, eq⟩
  · rw [eq, conclude_k, kept]
  · rw [eq]; exact (conclude_k s0 u).trans kept

theorem handRequest_k (s0 s : State) (src : Station) (tgt : BitVec 6) (payload : List Byte) :
    (handRequest s0 s src tgt payload).freq.k = s.freq.k := by
  have heard := (refresh_hitsOnly s src).k
  have handed : (handOn (refresh s src)).freq.k = s.freq.k := (handOn_k _).trans heard
  unfold handRequest
  dsimp only
  split
  · exact (takeRequest_k s0 _ src true payload).trans handed
  split
  · exact (takeRequest_k s0 _ src false payload).trans handed
  · exact (conclude_k s0 _).trans heard

theorem requestArrives_k (s : State) (src : Station) (tgt : BitVec 6) (payload : List Byte) :
    (requestArrives s src tgt payload).freq.k = s.freq.k := by
  unfold requestArrives
  split
  · exact handRequest_k s (lineQuiet s) src tgt payload
  · rfl

theorem handFrame_k (s0 s : State) (f : Frame) : (handFrame s0 s f).freq.k = s.freq.k := by
  unfold handFrame
  dsimp only
  split
  · split
    · exact (conclude_k s0 _).trans (takeAnnounce_hitsOnly s _ _).k
    · rfl
  split
  · exact handRequest_k s0 s _ _ _
  · exact (conclude_k s0 _).trans (refresh_hitsOnly s _).k

/-! ## The commands without a correction event -/

/-- Every outcome has the K of `s`. -/
def LeavesK (s : State) (o : Host.Outcome State Fault Refusal) : Prop := EveryNext (fun t => t.freq.k = s.freq.k) o

theorem leavesK_next {s t : State} (h : t.freq.k = s.freq.k) : LeavesK s (.next t) := (everyNext_next _ t).2 h

/-- A change under a condition, without which nothing changes. -/
theorem leavesK_ite {s t : State} {c : Prop} [Decidable c] (h : t.freq.k = s.freq.k) :
    LeavesK s (if c then .next t else .next s) := everyNext_ite h rfl

/-- An event under a condition. -/
theorem leavesK_event {s u : State} {c : Prop} [Decidable c] (h : u.freq.k = s.freq.k) :
    LeavesK s (if c then .next (conclude s u) else .next s) := leavesK_ite ((conclude_k s u).trans h)

theorem execConfigReadEnd_leavesK (r : ConfigRead) (temp : BitVec 9) (s : State) :
    LeavesK s (execConfigReadEnd r temp s) := by
  unfold execConfigReadEnd
  split
  · split
    · exact everyNext_ite (settle_k s _ _ _) (readFailed_k s _ _)
    · exact leavesK_next (readFailed_k s _ _)
  all_goals exact leavesK_next rfl

theorem execConfigReadTimeout_leavesK (temp : BitVec 9) (s : State) : LeavesK s (execConfigReadTimeout temp s) := by
  unfold execConfigReadTimeout
  split
  · exact leavesK_ite (readFailed_k s _ _)
  all_goals exact leavesK_next rfl

theorem decodeSlot_freq (s : State) (r : Recv) (x : Sample) : (decodeSlot s r x).freq = s.freq := by
  unfold decodeSlot
  dsimp only
  split <;> rfl

theorem execFrameArrival_leavesK (bits : List Bool) (s : State) : LeavesK s (execFrameArrival bits s) := by
  unfold execFrameArrival
  split
  · split
    · exact everyNext_ite (handFrame_k s (lineQuiet s) _) rfl
    · exact leavesK_next rfl
  · exact leavesK_next rfl

theorem execAttemptStart_leavesK (elapsed : Nat) (s : State) : LeavesK s (execAttemptStart elapsed s) := by
  unfold execAttemptStart
  split
  · exact leavesK_next rfl
  split
  · split <;> exact leavesK_next rfl
  · exact leavesK_next rfl

theorem execFrameSent_leavesK (straps : BitVec 5) (s : State) : LeavesK s (execFrameSent straps s) := by
  unfold execFrameSent
  split
  · split
    · exact everyNext_ite (restart_k _ straps) rfl
    · exact leavesK_next rfl
  · exact leavesK_next rfl

theorem execCollision_leavesK (straps : BitVec 5) (s : State) : LeavesK s (execCollision straps s) := by
  unfold execCollision
  split
  · next held _ =>
    have dropped : (dropFrame s held.cls).freq.k = s.freq.k := conclude_k s _
    split
    · split
      · exact leavesK_next rfl
      · exact everyNext_ite ((restart_k _ straps).trans dropped) dropped
    · exact leavesK_next rfl
  · exact leavesK_next rfl

theorem execClaimWindowExpiry_leavesK (w : WindowOwner) (s : State) : LeavesK s (execClaimWindowExpiry w s) := by
  unfold execClaimWindowExpiry
  split
  · exact leavesK_event rfl
  split
  · exact leavesK_event rfl
  · exact leavesK_next rfl

theorem execDriverAnswer_leavesK (a : DriverAnswer) (s : State) : LeavesK s (execDriverAnswer a s) := by
  unfold execDriverAnswer
  split
  · exact leavesK_event rfl
  · exact leavesK_next rfl

theorem execAllowanceExpiry_leavesK (s : State) : LeavesK s (execAllowanceExpiry s) := by
  unfold execAllowanceExpiry
  split
  · exact leavesK_event rfl
  · exact leavesK_next rfl

theorem execRetryTimerExpiry_leavesK (p : Port) (s : State) : LeavesK s (execRetryTimerExpiry p s) := by
  unfold execRetryTimerExpiry
  split
  · split
    · exact everyNext_ite (conclude_k s _) (conclude_k s _)
    · exact leavesK_next rfl
  · exact leavesK_next rfl

theorem execStepTimerExpiry_leavesK (s : State) : LeavesK s (execStepTimerExpiry s) := by
  unfold execStepTimerExpiry
  dsimp only
  split
  · exact everyNext_ite (conclude_k s _) rfl
  · exact leavesK_next rfl

theorem execListenEnd_leavesK (s : State) : LeavesK s (execListenEnd s) := by
  have placed : HitsOnly { s with phase := .running, listenTimer := none } (requestTrigger (unheardEval
      ((idx 16).foldl placeRecord { s with phase := .running, listenTimer := none }))) :=
    (foldl_hitsOnly placeRecord_hitsOnly (idx 16) _).trans
      ((unheardEval_hitsOnly _).trans (requestTrigger_hitsOnly _))
  unfold execListenEnd
  split
  · exact leavesK_event placed.k
  all_goals exact leavesK_next rfl

/-- The commands that may bring a correction event (R152, R154). -/
def MayCorrect (i : Instr) : Prop := (∃ c n, i = .gateCompletion c n) ∨ ∃ temp, i = .secondsTick temp

/-- Every command but those and FULL_RESET leaves K. -/
theorem exec_leavesK (i : Instr) (s : State) (noReset : ∀ straps, i ≠ .fullReset straps) (noCorrection : ¬MayCorrect i) :
    LeavesK s (exec i s) := by
  cases hr : requestOf i with
  | some r =>
    obtain ⟨src, tgt, payload⟩ := r
    rw [exec_of_requestOf s hr]
    exact leavesK_next (requestArrives_k s src tgt payload)
  | none =>
    cases i with
    | fullReset straps => exact absurd rfl (noReset straps)
    | gateCompletion c count => exact absurd (.inl ⟨c, count, rfl⟩) noCorrection
    | secondsTick temp => exact absurd (.inr ⟨temp, rfl⟩) noCorrection
    | configReadEnd r temp => exact execConfigReadEnd_leavesK r temp s
    | configReadTimeout temp => exact execConfigReadTimeout_leavesK temp s
    | slotCompletion => exact leavesK_event (congrArg Frequency.k (decodeSlot_freq _ _ _))
    | frameArrival bits => exact execFrameArrival_leavesK bits s
    | attemptStart elapsed => exact execAttemptStart_leavesK elapsed s
    | collision straps => exact execCollision_leavesK straps s
    | frameSent straps => exact execFrameSent_leavesK straps s
    | peerExpiry n => exact leavesK_event ((setPeer_hitsOnly s n _).trans (unheardEval_hitsOnly _)).k
    | silenceTimerExpiry | unheardTimerExpiry => exact leavesK_event (requestTrigger_hitsOnly _).k
    | claimWindowExpiry w => exact execClaimWindowExpiry_leavesK w s
    | driverAnswer a => exact execDriverAnswer_leavesK a s
    | allowanceExpiry => exact execAllowanceExpiry_leavesK s
    | retryTimerExpiry p => exact execRetryTimerExpiry_leavesK p s
    | stepTimerExpiry => exact execStepTimerExpiry_leavesK s
    | edgeReturn c => exact leavesK_event (congrArg Frequency.k (edgeBack_freq s c))
    | listenEnd => exact execListenEnd_leavesK s
    | lineActivity | lineIdle => exact leavesK_next rfl
    | sampleAnswer | spacingTimerExpiry | routineTimerExpiry | gateStart => exact leavesK_ite rfl
    | linefaultTimerExpiry | quarantineEnd | holdoffExpiry | wtrExpiry | recoveryTimerExpiry | edgeLoss | gateOverrun
    | holdoverLimitExpiry => exact leavesK_event rfl
    | _ => cases hr

/-! ## Correction events -/

/-- K of `t` is that of `s`, or the slew of `s` from it towards a target. -/
def SlewsK (s t : State) : Prop := t.freq.k = s.freq.k ∨ ∃ target, t.freq.k = slew s.config.slew target s.freq.k

theorem SlewsK.conclude {s u : State} (h : SlewsK s u) (s0 : State) : SlewsK s (conclude s0 u) := by
  unfold SlewsK
  rw [conclude_k]
  exact h

/-- A correction event on a state with the K and the slew step of `s`. -/
theorem correct_slewsK {s u : State} (hit : Bool) (k : u.freq.k = s.freq.k) (config : u.config = s.config) :
    SlewsK s (correct u hit) := by
  refine .inr ⟨u.target, ?_⟩
  rw [correct_freq, ← k, ← config]
  rfl

theorem completeGate_slewsK (s : State) (c : Cand) (count : Nat) : SlewsK s (completeGate s c count) := by
  have frame := (setCand_frame s c (s.measuredCand c count)).trans (reselect_frame _)
  rw [completeGate_eq]
  split
  · exact correct_slewsK _ frame.k frame.config
  · exact .inl frame.k

theorem execSecondsTick_slewsK (temp : BitVec 9) (s : State) : EveryNext (SlewsK s) (execSecondsTick temp s) := by
  have corrected : SlewsK s (correct (tickSeconds s temp) false) := correct_slewsK false rfl rfl
  have ticked : SlewsK s (tickSeconds s temp) := .inl rfl
  unfold execSecondsTick
  dsimp only
  split
  · exact everyNext_ite (corrected.conclude s) (ticked.conclude s)
  · exact (everyNext_next _ _).2 (.inl rfl)

theorem exec_slewsK (i : Instr) (s : State) (noReset : ∀ straps, i ≠ .fullReset straps) :
    EveryNext (SlewsK s) (exec i s) := by
  by_cases correction : MayCorrect i
  · rcases correction with ⟨c, count, rfl⟩ | ⟨temp, rfl⟩
    · exact everyNext_ite ((completeGate_slewsK s c count).conclude s) (.inl rfl)
    · exact execSecondsTick_slewsK temp s
  · exact fun t ht => .inl (exec_leavesK i s noReset correction t ht)

/-- Settles O43: K stands where it stood or one slew from it. -/
theorem kMovesBySlewAlone : Obligations.KMovesBySlewAlone := by
  intro i s t noReset lo hi ht
  have stays : (∀ c n, i ≠ .gateCompletion c n) → (∀ temp, i ≠ .secondsTick temp) → t.freq.k = s.freq.k :=
    fun noGate noTick => exec_leavesK i s noReset
      (fun correction => correction.elim (fun ⟨c, n, h⟩ => noGate c n h) fun ⟨temp, h⟩ => noTick temp h) t ht
  rcases exec_slewsK i s noReset t ht with kept | ⟨target, slewed⟩
  · rw [kept, Int.sub_self]
    exact ⟨lo, hi, Nat.zero_le _, fun _ _ => rfl⟩
  · obtain ⟨lo', hi'⟩ := slew_bounds s.config.slew target s.freq.k
    have step := slew_natAbs_le lo hi s.config.slew target
    rw [← slewed] at lo' hi' step
    exact ⟨lo', hi', step, stays⟩

end Sys2Proof.Machine
end

section
/-! SUPPORT. A gate's measurement and judgement (O40). -/

namespace Sys2Proof.Machine

/-! ## The offset measured and filtered (R149, R150) -/

/-- The offset is clamped to ±2047, and the saturation flag says that it was. -/
theorem measure_eq (count : Nat) : measure count =
    ((if (25000000 : Int) - count < -2047 then (-2047 : Int)
      else if 2047 < (25000000 : Int) - count then 2047 else 25000000 - count),
      decide ((25000000 : Int) - count < -2047 ∨ 2047 < (25000000 : Int) - count)) := by
  unfold measure nominal
  by_cases low : (25000000 : Int) - count < -2047
  · simp [low]
  · by_cases high : 2047 < (25000000 : Int) - count
    · simp [low, high]
    · simp [low, high]

theorem filter_none (d : Int) : filter none d = 16 * d := rfl

theorem filter_some (f d : Int) : filter (some f) d = f + (16 * d - f).tdiv 8 := rfl

/-! ## The judgement (R136) -/

/-- A completion that counts against its candidate: saturated, or beyond the reject limit. -/
def Rejected (g : Config) (d : Int) (sat : Bool) : Prop := sat = true ∨ g.reject < d.natAbs

section

variable {r : CandRec} {g : Config} {d : Int} {sat : Bool}

theorem CandRec.completed_of_rejected (bad : Rejected g d sat) (state : r.state = .qualifying ∨ r.state = .qualified) :
    r.completed g d sat = { r with state := .qualifying, good := 0 } := by
  have judged : (sat || decide (g.reject < d.natAbs)) = true := by simpa [Rejected] using bad
  unfold CandRec.completed
  rw [if_pos judged, if_pos state]

theorem CandRec.completed_of_not_rejected (fair : ¬Rejected g d sat) : r.completed g d sat =
    if r.state = .qualifying ∧ d.natAbs ≤ g.accept then
      if r.good + 1 = 3 then { r with state := .qualified, good := 0 } else { r with good := r.good + 1 }
    else r := by
  have judged : ¬(sat || decide (g.reject < d.natAbs)) = true := by simpa [Rejected] using fair
  unfold CandRec.completed
  rw [if_neg judged]

theorem CandRec.completed_counts (fair : ¬Rejected g d sat) (near : d.natAbs ≤ g.accept) (state : r.state = .qualifying)
    (few : r.good < 2) : r.completed g d sat = { r with good := r.good + 1 } := by
  rw [CandRec.completed_of_not_rejected fair, if_pos ⟨state, near⟩, if_neg (by omega)]

theorem CandRec.completed_qualifies (fair : ¬Rejected g d sat) (near : d.natAbs ≤ g.accept)
    (state : r.state = .qualifying) (third : r.good = 2) :
    r.completed g d sat = { r with state := .qualified, good := 0 } := by
  rw [CandRec.completed_of_not_rejected fair, if_pos ⟨state, near⟩, if_pos (by omega)]

/-- Between the limits nothing moves, and a QUALIFIED candidate stays so up to the reject limit. -/
theorem CandRec.completed_stands (fair : ¬Rejected g d sat) (h : g.accept < d.natAbs ∨ r.state = .qualified) :
    r.completed g d sat = r := by
  rw [CandRec.completed_of_not_rejected fair, if_neg]
  rintro ⟨state, near⟩
  rcases h with far | qualified
  · omega
  · rw [state] at qualified; cases qualified

theorem CandRec.completed_of_lockedout (state : r.state = .lockedout) : r.completed g d sat = r := by
  unfold CandRec.completed
  simp [state]

end

/-! ## The candidate measured -/

/-- The candidate after steps 1 and 2 of a completion: its offset measured and filtered, its hit mark cleared. -/
def CandRec.withMeasure (r : CandRec) (count : Nat) : CandRec :=
  { r with d := some (measure count), f := some (r.filtered count), hit := false }

theorem measuredCand_eq (s : State) (c : Cand) (count : Nat) : s.measuredCand c count =
    ((s.cand c).withMeasure count).completed s.config (measure count).1 (measure count).2 := rfl

/-- The judgement leaves what the measurement wrote, and the gate. -/
theorem measuredCand_measure (s : State) (c : Cand) (count : Nat) : let r := s.measuredCand c count
    r.d = some (measure count) ∧ r.hit = false ∧ r.gate = (s.cand c).gate := by
  dsimp only
  rw [measuredCand_eq, CandRec.completed_rest]
  exact ⟨rfl, rfl, rfl⟩

/-- A used candidate without signal fail is after the event what the completion made of it. -/
theorem gateCompletion_cand {s : State} {c : Cand} (count : Nat) (running : s.phase = .running)
    (sound : (s.cand c).sigFail = false) (fails : s.fails c = false) :
    (conclude s (completeGate s c count)).cand c = s.measuredCand c count := by
  have written : (completeGate s c count).cand c = s.measuredCand c count := by
    rw [completeGate_cand, withMeasured_cand, if_pos rfl]
  have sources := (withMeasured_sources s c count).trans (completeGate_sources s c count)
  obtain ⟨-, -, sigFail⟩ := measuredCand_rest s c count
  rw [conclude_cand s ((completeGate_phase s c count).trans running), judgedCand_of_agrees, written]
  rw [written, sources.fails, sigFail, sound, fails]
  exact .inr rfl

theorem gateCompletion_of_no_gate {s : State} {c : Cand} (count : Nat) (noGate : (s.cand c).gate = false) :
    exec (.gateCompletion c count) s = .next s := by
  change execGateCompletion c count s = _
  simp [execGateCompletion, noGate]

/-- A completion moves no other candidate's d or hit mark. -/
theorem completeGate_cand_ne (s : State) (c : Cand) (count : Nat) (x : Cand) (h : x ≠ c) :
    (completeGate s c count).cand x = s.cand x := by
  rw [completeGate_cand, withMeasured_cand, if_neg h.symm]

/-- Settles O40: the candidate is measured and judged by its limits, and the event's end leaves it so. -/
theorem gateCompletionMeasuresAndJudges : Obligations.GateCompletionMeasuresAndJudges := by
  intro c count s running
  refine ⟨fun gate sound fails used _ => ⟨_, gateCompletion_of_gate count running gate, ?_, ?_, ?_⟩,
    gateCompletion_of_no_gate count⟩
  · intro raw d sat bad r
    have measured : measure count = (d, sat) := measure_eq count
    obtain ⟨offset, hit, gate'⟩ := measuredCand_measure s c count
    obtain ⟨filtered, -⟩ := measuredCand_rest s c count
    rw [gateCompletion_cand count running sound fails, offset, filtered, hit, gate', gate, measuredCand_eq,
      CandRec.filtered, measured]
    refine ⟨rfl, fun first => by rw [first, filter_none], fun f later => by rw [later, filter_some], rfl, rfl,
      fun rejected free => ?_, fun fair near state few => ?_, fun fair near state third => ?_,
      fun fair stands => ?_, fun locked => ?_⟩
    · have state : r.state = .qualifying ∨ r.state = .qualified := by
        rcases used with state | state | locked
        · exact .inl state
        · exact .inr state
        · exact absurd locked free
      rw [CandRec.completed_of_rejected (r := r.withMeasure count) rejected state]
      exact ⟨rfl, rfl⟩
    · rw [CandRec.completed_counts (r := r.withMeasure count) fair near state few]
      exact ⟨state, rfl⟩
    · rw [CandRec.completed_qualifies (r := r.withMeasure count) fair near state third]
      exact ⟨rfl, rfl⟩
    · rw [CandRec.completed_stands (r := r.withMeasure count) fair stands]
      exact ⟨rfl, rfl⟩
    · rw [CandRec.completed_of_lockedout (r := r.withMeasure count) locked]
      exact ⟨locked, rfl⟩
  · exact conclude_cand_rest_of_ne s ((completeGate_phase s c count).trans running) (completeGate_cand_ne s c count)
  · exact ((completeGate_frame s c count).trans (conclude_frame s _)).withFreq _

end Sys2Proof.Machine
end

section
/-! SUPPORT. The seconds tick and the limit of holdover (O42). -/

namespace Sys2Proof.Machine

/-! ## The Frequency Unit at an event's end -/

theorem readbackCheck_freq (s : State) : (readbackCheck s).freq = s.freq := by
  unfold readbackCheck
  split
  · have placed := (foldl_hitsOnly takePosition_hitsOnly (idx 16) s).freq
    unfold beginListen
    generalize (idx 16).foldl takePosition s = u at placed ⊢
    exact placed
  · rfl

@[simp] theorem readied_freq (s : State) : s.readied.freq = s.freq := by
  rw [State.readied, readbackCheck_freq, arbitrate_freq, protect_freq]

/-- From HOLDOVER the choice of a candidate leads to ACQUIRING, and nothing else moves the Frequency Unit (R151). -/
theorem reselect_of_holdover {s : State} (holdover : s.freq.state = .holdover) :
    (reselect s).freq = s.freq ∨ (reselect s).freq.state = .acquiring := by
  by_cases same : s.select = s.tim.selection
  · rw [reselect_of_same same]; exact .inl rfl
  cases chosen : s.select with
  | some c => rw [reselect_of_some same chosen]; exact .inr (by simp [enterAcquiring])
  | none =>
    rw [reselect_of_none same chosen, if_neg (by simp [holdover])]
    exact .inl rfl

/-- An event that ends in HOLDOVER, as it was before its end, leaves the Frequency Unit as it found it. -/
theorem conclude_freq_of_holdover {s0 s : State} (holdover : s.freq.state = .holdover)
    (lasts : (conclude s0 s).freq.state = .holdover) : (conclude s0 s).freq = s.freq := by
  rw [conclude_freq, handOn_eq] at lasts ⊢
  by_cases settled : s.readied.settled = true
  · rw [timing_freq settled] at lasts ⊢
    have before : (judgeFails s.readied).freq = s.freq := readied_freq s
    rcases reselect_of_holdover (s := judgeFails s.readied) (by rw [before, holdover]) with kept | acquiring
    · rw [kept, before]
    · rw [acquiring] at lasts; cases lasts
  · rw [timing_of_unsettled (by simpa using settled), readied_freq]

/-! ## Correction events without a reference (R152–R154) -/

theorem clampInt_zero (step : Nat) : clampInt step 0 = 0 := by
  unfold clampInt
  rw [if_neg (by omega), if_neg (by omega)]

/-- A slew towards K itself holds it within its bound. -/
theorem slew_self (step : Nat) (k : Int) : slew step k k = clampInt 32767 k := by
  rw [slew, Int.sub_self, clampInt_zero, Int.add_zero]

theorem target_of_freerun {s : State} (h : s.freq.state = .freerun) : s.target = s.freq.k := by simp [State.target, h]

theorem target_of_holdover {s : State} {h : Int} {e : BitVec 9} (state : s.freq.state = .holdover)
    (held : s.freq.h = some h) (entry : s.freq.tEntry = some e) :
    s.target = clampInt 32767 (h + tempComp s.config s.freq.temp - tempComp s.config e) := by
  simp [State.target, state, held, entry]

/-- No lock test and no history in HOLDOVER and FREERUN (R155, R156). -/
theorem Frequency.corrected_of_unlocked {q : Frequency} (h : q.state = .holdover ∨ q.state = .freerun) (f k : Int)
    (hit : Bool) : q.corrected f k hit = { q with t := some f, k := k } := by
  rcases h with state | state
  · simp [Frequency.corrected, lockTest, state]
  · simp [Frequency.corrected, lockTest, state]

/-! ## SECONDS_TICK -/

/-- The state after a tick of a settled station, before the event's end (R152). -/
def State.ticked (s : State) (temp : BitVec 9) : State :=
  if s.freq.state = .holdover ∨ s.freq.state = .freerun then correct (tickSeconds s temp) false else tickSeconds s temp

theorem secondsTick_of_settled {s : State} (temp : BitVec 9) (settled : s.settled = true) :
    exec (.secondsTick temp) s = .next (conclude s (s.ticked temp)) := by
  change execSecondsTick temp s = _
  unfold execSecondsTick State.ticked
  rw [if_pos settled]
  dsimp only
  split <;> rfl

theorem secondsTick_of_unsettled {s : State} (temp : BitVec 9) (unsettled : s.settled = false) :
    exec (.secondsTick temp) s = .next { s with freq := { s.freq with seconds := s.freq.seconds + 1 } } := by
  change execSecondsTick temp s = _
  unfold execSecondsTick
  rw [unsettled]
  rfl

/-- With a reference the tick brings no correction event. -/
theorem ticked_of_locked {s : State} (temp : BitVec 9) (h : ¬(s.freq.state = .holdover ∨ s.freq.state = .freerun)) :
    s.ticked temp = tickSeconds s temp := if_neg h

theorem ticked_freq_of_unlocked {s : State} (temp : BitVec 9)
    (h : s.freq.state = .holdover ∨ s.freq.state = .freerun) : (s.ticked temp).freq =
      { (tickSeconds s temp).freq with
        t := some (tickSeconds s temp).target
        k := slew s.config.slew (tickSeconds s temp).target s.freq.k } := by
  unfold State.ticked
  rw [if_pos h, correct_freq, Frequency.corrected_of_unlocked (q := (tickSeconds s temp).freq) h]
  rfl

/-- Every tick counts the second and takes the temperature, and feeds no history. -/
theorem ticked_freq_always (s : State) (temp : BitVec 9) : let q := (s.ticked temp).freq
    q.seconds = s.freq.seconds + 1 ∧ q.temp = temp ∧ q.history = s.freq.history := by
  by_cases unlocked : s.freq.state = .holdover ∨ s.freq.state = .freerun
  · rw [ticked_freq_of_unlocked temp unlocked]; exact ⟨rfl, rfl, rfl⟩
  · rw [ticked_of_locked temp unlocked]; exact ⟨rfl, rfl, rfl⟩

theorem ticked_frame (s : State) (temp : BitVec 9) :
    EventFrame { s with freq := (s.ticked temp).freq } (s.ticked temp) := by
  unfold State.ticked
  split
  · exact correct_frame (tickSeconds s temp) false
  · exact .refl (tickSeconds s temp)

/-! ## HOLDOVER_LIMIT_EXPIRY -/

/-- The state with the holdover timer raised to the limit (log 34). -/
def State.atHoldoverLimit (s : State) : State := { s with freq := { s.freq with
  hoTimer := some (max (s.freq.hoTimer.getD 0) (s.config.hoLimit * 3600)) } }

theorem holdoverLimitExpiry_of_holdover {s : State} (settled : s.settled = true) (holdover : s.freq.state = .holdover)
    (limit : s.config.hoLimit ≠ 0) : exec .holdoverLimitExpiry s = .next (conclude s s.atHoldoverLimit) := by
  change execHoldoverLimitExpiry s = _
  unfold execHoldoverLimitExpiry
  rw [if_pos (by simp [settled, holdover, limit])]
  rfl

theorem holdoverLimitExpiry_elsewhere {s : State} (h : s.freq.state ≠ .holdover) :
    exec .holdoverLimitExpiry s = .next s := by
  change execHoldoverLimitExpiry s = _
  simp [execHoldoverLimitExpiry, h]

theorem atHoldoverLimit_frame (s : State) : EventFrame s s.atHoldoverLimit := { EventFrame.refl s with }

/-- Without a QUALIFIED candidate none is chosen (R138, R139). -/
theorem select_eq_none {s : State} (h : ∀ c, (s.cand c).state ≠ .qualified) : s.select = none := by
  cases chosen : s.select with
  | none => rfl
  | some c => exact absurd (select_qualified chosen) (h c)

theorem selection_of_holdover {s : State} (tied : TimingTied s) (h : s.freq.state = .holdover) :
    s.tim.selection = none := by
  unfold TimingTied at tied
  rw [← Option.not_isSome_iff_eq_none, tied, h]
  simp

theorem hoexpired_iff (s : State) : s.hoexpired = true ↔ s.freq.state = .holdover ∧ s.config.hoLimit ≠ 0 ∧
    s.config.hoLimit * 3600 ≤ s.freq.hoTimer.getD 0 := by
  simp [State.hoexpired, and_assoc]

theorem hoexpired_congr {s t : State} (freq : t.freq = s.freq) (config : t.config = s.config) :
    t.hoexpired = s.hoexpired := by
  unfold State.hoexpired; rw [freq, config]

theorem atHoldoverLimit_hoexpired {s : State} (holdover : s.freq.state = .holdover) (limit : s.config.hoLimit ≠ 0) :
    s.atHoldoverLimit.hoexpired = true :=
  (hoexpired_iff _).2 ⟨holdover, limit, Nat.le_max_right _ _⟩

theorem qlBefore_of_hoexpired {s : State} (h : s.hoexpired = true) : s.qlBefore = 6 := by
  obtain ⟨holdover, -⟩ := (hoexpired_iff s).1 h
  simp [State.qlBefore, holdover, h]

/-- Every point but LOGOVR's is worked out once (R165, R175). -/
theorem settle_point {s : State} (running : s.running = true) (old : Vector Point 158) {i : Fin 158}
    (h : i ≠ logovrPoint) : tget (Alarm.settle s old).points i = s.pointNow i := by
  have once : ∀ p, tget (tset s.pointsNow logovrPoint p) i = s.pointNow i := fun p => by
    rw [tget_tset_ne _ h.symm, State.pointsNow, if_pos running, tget_tab]
  unfold Alarm.settle
  dsimp only
  split
  · exact once _
  · rw [State.pointsNow, if_pos running, tget_tab]

/-- HOEXPIRED's point follows its condition through an event of normal running. -/
theorem conclude_hoexpired_point (s0 : State) {s : State} (h : s.phase = .running) :
    (tget (conclude s0 s).alm.points 156).active = (conclude s0 s).hoexpired := by
  have running : (handOn s).running = true := by
    rw [State.running, ← conclude_phase s0 s, conclude_stays_running s0 s h]; rfl
  have config : (conclude s0 s).config = (handOn s).config :=
    (conclude_frame s0 s).config.trans (handOn_frame s).config.symm
  rw [conclude_alm, if_pos running, settle_point running _ (by decide), hoexpired_congr (conclude_freq s0 s) config]
  rfl

/-- Nothing of the references is left to do at the limit: they are judged, and none is QUALIFIED. -/
theorem atHoldoverLimit_settled {s : State} (sound : TimingSound s) (settled : s.settled = true)
    (holdover : s.freq.state = .holdover) (unqualified : ∀ c, (s.cand c).state ≠ .qualified) :
    ReferencesSettled s.atHoldoverLimit where
  judged := sound.judged settled
  chosen := (select_eq_none unqualified).trans (selection_of_holdover sound.state holdover).symm

/-- Settles O42: the tick's own effect is read off its correction event, and the event's end keeps what the frame and
HOLDOVER keep; at the limit the announced values are those of HOEXPIRED. -/
theorem secondsTickAndHoldoverTimer : Obligations.SecondsTickAndHoldoverTimer := by
  intro temp s
  refine ⟨secondsTick_of_unsettled temp, fun settled => ?_, fun running sound holdover limit unqualified => ?_,
    holdoverLimitExpiry_elsewhere⟩
  · have frame := conclude_frame s (s.ticked temp)
    obtain ⟨seconds, sample, history⟩ := ticked_freq_always s temp
    refine ⟨_, secondsTick_of_settled temp settled, frame.seconds.trans seconds, frame.temp.trans sample,
      frame.history.trans history, fun locked => ?_, fun freerun => ?_, fun h e holdover held entry => ?_,
      fun n holdover lasts timer => ?_, ((ticked_frame s temp).trans frame).withFreq _⟩
    · have noCorrection : ¬(s.freq.state = .holdover ∨ s.freq.state = .freerun) := by
        rcases locked with state | state
        · simp [state]
        · simp [state]
      rw [frame.k, frame.target, ticked_of_locked temp noCorrection]
      exact ⟨rfl, rfl⟩
    · have target : (tickSeconds s temp).target = s.freq.k := target_of_freerun freerun
      rw [frame.k, frame.target, ticked_freq_of_unlocked temp (.inr freerun), target, slew_self]
      exact ⟨rfl, rfl⟩
    · have target := target_of_holdover (s := tickSeconds s temp) holdover held entry
      rw [frame.k, frame.target, ticked_freq_of_unlocked temp (.inl holdover), target]
      exact ⟨rfl, rfl⟩
    · have ticked := ticked_freq_of_unlocked temp (.inl holdover)
      have before : (s.ticked temp).freq.state = .holdover := by rw [ticked]; exact holdover
      rw [conclude_freq_of_holdover before lasts, ticked]
      refine ⟨?_, rfl, rfl⟩
      simp [tickSeconds, holdover, timer, hoTimerMax]
  · have settled := settled_of_running running
    have references := atHoldoverLimit_settled sound settled holdover unqualified
    have freq := references.conclude_freq s running
    have frame := (atHoldoverLimit_frame s).trans (conclude_frame s s.atHoldoverLimit)
    have expired : (conclude s s.atHoldoverLimit).hoexpired = true := by
      rw [hoexpired_congr freq frame.config]
      exact atHoldoverLimit_hoexpired holdover limit
    have announced := (conclude_timingKept s s.atHoldoverLimit).announceSound (timing_announceSound _)
    have running' := conclude_stays_running s s.atHoldoverLimit running
    obtain ⟨squelch, ql, -⟩ := announced (settled_of_running running')
    rw [qlBefore_of_hoexpired expired, frame.config] at squelch
    rw [squelch, qlBefore_of_hoexpired expired] at ql
    refine ⟨_, holdoverLimitExpiry_of_holdover settled holdover limit, freq, expired, ?_, squelch, ?_, frame⟩
    · rw [conclude_hoexpired_point (s := s.atHoldoverLimit) s running, expired]
    · simpa using ql

end Sys2Proof.Machine
end

section
/-! SUPPORT. The alarm points by number (R163, R168), what a point is worked out from, and `PointsSound` read point by
point (O48). -/

namespace Sys2Proof.Machine

/-! ## The points by number (R163) -/

theorem pointOf_portPoint : ∀ (k : Fin 8) (p : Port), pointOf (portPoint k p) = (portKind k, .port p) := by decide

theorem eq_portPoint_of_lt {i : Fin 158} (h : i.val < 128) : ∃ k p, i = portPoint k p :=
  ⟨⟨i.val / 16, by omega⟩, ⟨i.val % 16, by omega⟩, Fin.ext (Nat.div_add_mod i.val 16).symm⟩

theorem pointOf_cfgdef_iff : ∀ i : Fin 158, (pointOf i).1 = .cfgdef ↔ i.val = 140 := by decide +kernel

theorem pointOf_logovr_iff : ∀ i : Fin 158, (pointOf i).1 = .logovr ↔ i = logovrPoint := by decide +kernel

/-- The points latched at every raise are those of three kinds (R164). -/
theorem alwaysLatched_eq : ∀ i : Fin 158, alwaysLatched i = (decide ((pointOf i).1 = .peerlost) ||
    decide ((pointOf i).1 = .caplost) || decide ((pointOf i).1 = .logovr)) := by decide +kernel

/-- From 128 on a point supervises a spare, a candidate or the station. -/
theorem scope_ne_port : ∀ i : Fin 158, 128 ≤ i.val → ∀ p, (pointOf i).2 ≠ .port p := by decide +kernel

/-! ## Suppressors (R168) -/

/-- The points that suppress a point, by kind and scope. -/
def suppressors (k : Kind) (sc : Scope) : List (Kind × Scope) :=
  match k with
  | .low => [(.los, sc)]
  | .deg | .tim | .tlost => [(.los, sc), (.low, sc)]
  | .slow => [(.slos, sc)]
  | .stim => [(.slos, sc), (.slow, sc)]
  | .unheard | .peerlost => [(.isolated, .station)]
  | .reffail => [(.holdover, .station), (.freerun, .station)]
  | _ => []

theorem suppressed_eq_any (s : State) (k : Kind) (sc : Scope) :
    s.suppressed k sc = (suppressors k sc).any fun q => s.cond q.1 q.2 := by
  cases k <;> simp [State.suppressed, suppressors, Bool.or_comm]

theorem suppressed_congr {s t : State} {k : Kind} {sc : Scope}
    (h : ∀ q ∈ suppressors k sc, t.cond q.1 q.2 = s.cond q.1 q.2) : t.suppressed k sc = s.suppressed k sc := by
  rw [suppressed_eq_any, suppressed_eq_any, Bool.eq_iff_iff, List.any_eq_true, List.any_eq_true]
  exact exists_congr fun q => and_congr_right fun mem => by rw [h q mem]

/-- R168's table by number and by kind. -/
theorem map_suppressorsOf : ∀ i : Fin 158, (suppressorsOf i.val).map (fun n => pointOf (Fin.ofNat 158 n)) =
    suppressors (pointOf i).1 (pointOf i).2 := by decide

theorem lt_of_mem_suppressorsOf : ∀ i : Fin 158, ∀ n ∈ suppressorsOf i.val, n < 158 := by decide

theorem suppressed_iff (s : State) (i : Fin 158) : s.suppressed (pointOf i).1 (pointOf i).2 = true ↔
    ∃ j : Fin 158, j.val ∈ suppressorsOf i.val ∧ s.cond (pointOf j).1 (pointOf j).2 = true := by
  rw [suppressed_eq_any, ← map_suppressorsOf, List.any_map, List.any_eq_true]
  constructor
  · rintro ⟨n, mem, active⟩
    have small : (Fin.ofNat 158 n).val = n := Nat.mod_eq_of_lt (lt_of_mem_suppressorsOf i n mem)
    exact ⟨Fin.ofNat 158 n, by rwa [small], active⟩
  · rintro ⟨j, mem, active⟩
    have same : Fin.ofNat 158 j.val = j := Fin.ext (Nat.mod_eq_of_lt j.isLt)
    exact ⟨j.val, mem, by simpa [same] using active⟩

/-! ## What a point is worked out from (R163, R166–R169) -/

/-- `t` has of `s` all that the alarm points are worked out from, but for LOGOVR and the points themselves. The default
proofs are those of a `t` that leaves it untouched. -/
structure PointSources (s t : State) : Prop where
  running : t.running = s.running := by exact rfl
  halted : t.halted = s.halted := by exact rfl
  config : t.config = s.config := by exact rfl
  cfgdef : t.cfgdef = s.cfgdef := by exact rfl
  recvs : t.scan.recvs = s.scan.recvs := by exact rfl
  dec : t.dec = s.dec := by exact rfl
  lost : t.cap.lost = s.cap.lost := by exact rfl
  isolated : t.peers.isolated = s.peers.isolated := by exact rfl
  unheard : t.peers.unheard = s.peers.unheard := by exact rfl
  peerlost : t.peerlost = s.peerlost := by exact rfl
  linefault : t.line.linefault.isSome = s.line.linefault.isSome := by exact rfl
  protfail : ∀ p, t.protfail p = s.protfail p := by exact fun _ => rfl
  actfail : ∀ p, t.actfail p = s.actfail p := by exact fun _ => rfl
  exfail : t.exr.results = s.exr.results := by exact rfl
  selection : ∀ p, (t.prec p).selection = (s.prec p).selection := by exact fun _ => rfl
  reffail : ∀ c, t.reffail c = s.reffail c := by exact fun _ => rfl
  timing : t.freq.state = s.freq.state := by exact rfl
  hoexpired : t.hoexpired = s.hoexpired := by exact rfl
  squelch : t.tim.squelch = s.tim.squelch := by exact rfl

section

variable {s t : State} (h : PointSources s t)
include h

theorem PointSources.recv (r : Recv) : t.recv r = s.recv r := congrArg (tget · r) h.recvs

theorem PointSources.decv (r : Recv) : t.decv r = s.decv r := by
  simp only [State.decv, h.dec]

/-- The conditions of all points but LOGOVR's are as in `s`, and LOGOVR's too where the register is. -/
theorem PointSources.cond {k : Kind} (logOvr : k = .logovr → t.alm.logOvr = s.alm.logOvr) (sc : Scope) :
    t.cond k sc = s.cond k sc := by
  have timOf : ∀ r, t.timOf r = s.timOf r := fun r => by unfold State.timOf; rw [h.decv]
  have tlostOf : ∀ r, t.tlostOf r = s.tlostOf r := fun r => by unfold State.tlostOf; rw [h.decv]
  have recv := h.recv
  obtain ⟨-, halted, -, cfgdef, -, -, lost, isolated, unheard, peerlost, linefault, protfail, actfail, exfail, -,
    reffail, timing, hoexpired, squelch⟩ := h
  unfold State.cond
  split <;> simp only [*]

end

theorem protfail_congr {s t : State} {p : Port} (state : (t.prec p).state = (s.prec p).state)
    (request : (t.prec p).request = (s.prec p).request) : t.protfail p = s.protfail p := by
  unfold State.protfail
  rw [state, request]

/-! ## `PointsSound`, point by point -/

theorem masked_port (s : State) (k : Fin 8) (p : Port) : s.masked (portKind k) (.port p) =
    (tget s.config.kindMask (portKind k).place || tget s.dec.maint p || !s.used p) := by
  have ne : portKind k ≠ .cfgdef := by revert k; decide
  simp [State.masked, ne, Bool.or_assoc]

theorem masked_of_le (s : State) {i : Fin 158} (h : 128 ≤ i.val) : s.masked (pointOf i).1 (pointOf i).2 =
    (tget s.config.kindMask (pointOf i).1.place && !(decide (s.phase = .halt) && i.val == 140)) := by
  have cfgdef : decide ((pointOf i).1 = .cfgdef) = (i.val == 140) := decide_eq_decide.2 (pointOf_cfgdef_iff i)
  unfold State.masked
  rw [cfgdef]
  split
  · next p scope => exact absurd scope (scope_ne_port i h p)
  · rw [Bool.or_false]; rfl

theorem severityOf_port (s : State) (k : Kind) (p : Port) : s.severityOf k (.port p) =
    if (s.prec p).selection = none then k.base else k.base.lower := by
  cases h : (s.prec p).selection <;> simp [State.severityOf, h]

theorem severityOf_of_le (s : State) {i : Fin 158} (h : 128 ≤ i.val) :
    s.severityOf (pointOf i).1 (pointOf i).2 = (pointOf i).1.base := by
  unfold State.severityOf
  split
  · next p scope => exact absurd scope (scope_ne_port i h p)
  · rfl

theorem latchable_iff (s : State) (i : Fin 158) : s.latchable (pointOf i).1 = true ↔
    tget s.config.latch (pointOf i).1.place = true ∨ alwaysLatched i = true := by
  simp [State.latchable, alwaysLatched_eq, or_assoc]

/-- The point numbered `i` stands as the conditions of `s` give it (R165–R170, R173, R177). -/
structure State.PointFits (s : State) (i : Fin 158) (x : Point) : Prop where
  active : x.active = s.cond (pointOf i).1 (pointOf i).2
  masked : x.masked = s.masked (pointOf i).1 (pointOf i).2
  suppressed : x.suppressed = s.suppressed (pointOf i).1 (pointOf i).2
  severity : x.severity = s.severityOf (pointOf i).1 (pointOf i).2
  reported : x.reported = if s.running then (x.active || x.latched) && !x.masked && !x.suppressed
    else s.halted && decide ((pointOf i).1 = .cfgdef)
  latched : s.running = true → x.active = true → s.latchable (pointOf i).1 = true → x.latched = true
  quiet : s.running = false → x.latched = false
  acked : x.acked = true → x.reported = true

theorem running_iff (s : State) : s.running = true ↔ s.phase = .running := by simp [State.running]

/-- The invariant is that every point stands so. -/
theorem pointsSound_iff (s : State) : PointsSound s ↔ ∀ i, s.PointFits i (tget s.alm.points i) := by
  have cfgdef : ∀ i : Fin 158, decide ((pointOf i).1 = .cfgdef) = (i.val == 140) :=
    fun i => decide_eq_decide.2 (pointOf_cfgdef_iff i)
  constructor
  · intro sound i
    refine ⟨sound.active i, ?_, ?_, ?_, ?_, ?_, ?_, sound.acked i⟩
    · by_cases low : i.val < 128
      · obtain ⟨k, p, rfl⟩ := eq_portPoint_of_lt low
        rw [sound.portMasked, pointOf_portPoint, masked_port]
      · rw [sound.masked i (by omega), masked_of_le s (by omega)]
    · rw [Bool.eq_iff_iff, sound.suppressed, suppressed_iff]
      simp only [sound.active]
    · by_cases low : i.val < 128
      · obtain ⟨k, p, rfl⟩ := eq_portPoint_of_lt low
        rw [sound.portSeverity, pointOf_portPoint, severityOf_port]
      · rw [sound.severity i (by omega), severityOf_of_le s (by omega)]
    · split
      · next running => exact sound.reported ((running_iff s).1 running) i
      · next quiet =>
        rw [cfgdef]
        exact (sound.quiet (mt (running_iff s).2 quiet) i).2
    · exact fun running active latchable =>
        sound.latched ((running_iff s).1 running) i active ((latchable_iff s i).1 latchable)
    · exact fun quiet => (sound.quiet (fun h => by simp [(running_iff s).2 h] at quiet) i).1
  · intro fits
    constructor
    case active => exact fun i => (fits i).active
    case portMasked => exact fun k p => by rw [(fits _).masked, pointOf_portPoint, masked_port]
    case masked => exact fun i high => by rw [(fits i).masked, masked_of_le s high]
    case suppressed =>
      intro i
      rw [(fits i).suppressed, suppressed_iff]
      simp only [fun j => (fits j).active]
    case portSeverity => exact fun k p => by rw [(fits _).severity, pointOf_portPoint, severityOf_port]
    case severity => exact fun i high => by rw [(fits i).severity, severityOf_of_le s high]
    case reported => exact fun running i => by rw [(fits i).reported, if_pos ((running_iff s).2 running)]
    case latched =>
      exact fun running i active latchable =>
        (fits i).latched ((running_iff s).2 running) active ((latchable_iff s i).2 latchable)
    case quiet =>
      intro quiet i
      have idle : s.running = false := by simpa [State.running] using quiet
      refine ⟨(fits i).quiet idle, ?_⟩
      rw [(fits i).reported, if_neg (by simp [idle]), cfgdef]
      rfl
    case acked => exact fun i => (fits i).acked

/-! ## A point under the same conditions -/

/-- No point is suppressed by LOGOVR (R168). -/
theorem logovr_not_mem_suppressors {k : Kind} {sc : Scope} {q : Kind × Scope} (h : q ∈ suppressors k sc) :
    q.1 ≠ .logovr := by
  obtain ⟨k', sc'⟩ := q
  rintro rfl
  unfold suppressors at h
  split at h <;> simp at h

section

variable {s t : State} (h : PointSources s t)
include h

theorem PointSources.suppressed (k : Kind) (sc : Scope) : t.suppressed k sc = s.suppressed k sc :=
  suppressed_congr fun q mem => h.cond (fun logovr => absurd logovr (logovr_not_mem_suppressors mem)) q.2

theorem PointSources.masked (k : Kind) (sc : Scope) : t.masked k sc = s.masked k sc := by
  simp only [State.masked, State.used, h.config, h.halted, h.dec]

theorem PointSources.severityOf (k : Kind) (sc : Scope) : t.severityOf k sc = s.severityOf k sc := by
  simp only [State.severityOf, h.selection]

theorem PointSources.latchable (k : Kind) : t.latchable k = s.latchable k := by
  simp only [State.latchable, h.config]

/-- A point that stands as the conditions of `s` give it stands so in `t`. -/
theorem PointSources.fits {i : Fin 158} {x : Point} (logOvr : i = logovrPoint → t.alm.logOvr = s.alm.logOvr)
    (fits : s.PointFits i x) : t.PointFits i x where
  active := by rw [fits.active, h.cond fun logovr => logOvr ((pointOf_logovr_iff i).1 logovr)]
  masked := by rw [fits.masked, h.masked]
  suppressed := by rw [fits.suppressed, h.suppressed]
  severity := by rw [fits.severity, h.severityOf]
  reported := by rw [fits.reported, h.running, h.halted]
  latched := by rw [h.running, h.latchable]; exact fits.latched
  quiet := by rw [h.running]; exact fits.quiet
  acked := fits.acked

end

/-! ## The points at an event's end (R165, R177) -/

theorem pointNow_fits {s : State} (running : s.running = true) (i : Fin 158) : s.PointFits i (s.pointNow i) where
  active := rfl
  masked := rfl
  suppressed := rfl
  severity := rfl
  reported := by rw [if_pos running]; rfl
  latched _ active latchable := by
    change (_ || (s.cond _ _ && _)) = true
    rw [show s.cond (pointOf i).1 (pointOf i).2 = true from active, latchable]
    simp
  quiet quiet := absurd (running.symm.trans quiet) (by decide)
  acked acked := by
    simp only [State.pointNow, Bool.and_eq_true] at acked ⊢
    exact acked.1.2

theorem pointQuiet_fits {s : State} (quiet : s.running = false) (i : Fin 158) : s.PointFits i (s.pointQuiet i) where
  active := rfl
  masked := rfl
  suppressed := rfl
  severity := rfl
  reported := by rw [if_neg (by simp [quiet])]; rfl
  latched running := absurd (running.symm.trans quiet) (by decide)
  quiet _ := rfl
  acked := nofun

theorem follow_point {s : State} (quiet : s.running = false) (i : Fin 158) :
    tget (Alarm.follow s).points i = s.pointQuiet i := by
  change tget s.pointsNow i = _
  rw [State.pointsNow, if_neg (by simp [quiet]), tget_tab]

theorem settle_logOvr (s : State) (old : Vector Point 158) : (Alarm.settle s old).logOvr =
    (s.alm.logOvr ||
      decide (logCapacity - s.alm.log.length < (records old s.pointsNow s.freq.seconds).length)) := rfl

/-- LOGOVR becomes active at the event's own records (R175). -/
def State.fillsLog (s : State) (old : Vector Point 158) : Bool := (Alarm.settle s old).logOvr && !s.alm.logOvr

theorem settle_logOvr_of_fits {s : State} {old : Vector Point 158} (h : s.fillsLog old = false) :
    (Alarm.settle s old).logOvr = s.alm.logOvr := by
  simp only [State.fillsLog, settle_logOvr] at h ⊢
  cases full : s.alm.logOvr with
  | true => rfl
  | false => simpa [full] using h

/-- The state with every point worked out once, and LOGOVR as the event leaves it: what LOGOVR's own point is worked out
from a second time (R175). -/
def State.recorded (s : State) (old : Vector Point 158) : State :=
  { s with alm := { s.alm with
    points := s.pointsNow
    log := (Alarm.settle s old).log
    logOvr := (Alarm.settle s old).logOvr } }

/-- LOGOVR's point is worked out a second time where the event's records fill the log. -/
theorem settle_logovrPoint {s : State} (running : s.running = true) (old : Vector Point 158) :
    tget (Alarm.settle s old).points logovrPoint =
      if s.fillsLog old then (s.recorded old).pointNow logovrPoint else s.pointNow logovrPoint := by
  change tget (if s.fillsLog old then tset s.pointsNow logovrPoint ((s.recorded old).pointNow logovrPoint)
    else s.pointsNow) logovrPoint = _
  split
  · rw [tget_tset_same]
  · rw [State.pointsNow, if_pos running, tget_tab]

/-- `t` is `u` with the Alarm Unit worked out against the points `old` of before the event (R165), but for what no point
is worked out from. -/
structure WorkedOut (old : Vector Point 158) (u t : State) : Prop where
  sources : PointSources u t
  seconds : t.freq.seconds = u.freq.seconds
  alm : t.alm = if u.running then Alarm.settle u old else Alarm.follow u

section

variable {old : Vector Point 158} {u t : State} (h : WorkedOut old u t)
include h

theorem WorkedOut.settled (running : t.running = true) : t.alm = Alarm.settle u old := by
  rw [h.alm, if_pos (h.sources.running ▸ running)]

theorem WorkedOut.followed (quiet : t.running = false) : t.alm = Alarm.follow u := by
  rw [h.alm, if_neg (by rw [← h.sources.running, quiet]; decide)]

/-- Every point then stands as the conditions give it. -/
theorem WorkedOut.pointsSound : PointsSound t := by
  refine (pointsSound_iff t).2 fun i => ?_
  by_cases running : t.running = true
  · have alm := h.settled running
    have running' : u.running = true := h.sources.running ▸ running
    have once : t.alm.logOvr = u.alm.logOvr → t.PointFits i (u.pointNow i) := fun logOvr =>
      h.sources.fits (fun _ => logOvr) (pointNow_fits running' i)
    by_cases own : i = logovrPoint
    · subst own
      rw [alm, settle_logovrPoint running']
      split
      · have twice : PointSources (u.recorded old) t := { h.sources with }
        exact twice.fits (fun _ => by rw [alm]; rfl) (pointNow_fits (s := u.recorded old) running' _)
      · next fits => exact once (by rw [alm, settle_logOvr_of_fits (by simpa using fits)])
    · rw [alm, settle_point running' old own]
      exact h.sources.fits (fun logovr => absurd logovr own) (pointNow_fits running' i)
  · rw [Bool.not_eq_true] at running
    have quiet : u.running = false := h.sources.running ▸ running
    have alm := h.followed running
    rw [alm, follow_point quiet]
    exact h.sources.fits (fun _ => by rw [alm]; rfl) (pointQuiet_fits quiet i)

end

/-! ## The bay alarm lines and the summary (R173, R174) -/

theorem pulls_iff (ps : Vector Point 158) (sev : Severity) : pulls ps sev = true ↔
    ∃ i, (tget ps i).reported = true ∧ (tget ps i).acked = false ∧ (tget ps i).severity = sev := by
  simp [pulls, List.any_eq_true, and_assoc]

/-- In CONFIG-HALT the point of CFGDEF is reported with severity MAJOR, and before the start-up evaluation no other. -/
theorem followed_reports {s : State} (quiet : s.running = false) (sev : Severity) :
    (∃ i, (tget (Alarm.follow s).points i).reported = true ∧ (tget (Alarm.follow s).points i).acked = false ∧
      (tget (Alarm.follow s).points i).severity = sev) ↔ s.halted = true ∧ sev = .major := by
  simp only [follow_point quiet]
  constructor
  · rintro ⟨i, reported, -, severity⟩
    simp only [State.pointQuiet, Bool.and_eq_true, decide_eq_true_eq] at reported
    obtain ⟨halted, cfgdef⟩ := reported
    have number := (pointOf_cfgdef_iff i).1 cfgdef
    have base : s.severityOf (pointOf i).1 (pointOf i).2 = .major := by
      rw [severityOf_of_le s (by omega), cfgdef]; rfl
    exact ⟨halted, severity.symm.trans base⟩
  · rintro ⟨halted, rfl⟩
    exact ⟨140, by rw [State.pointQuiet, halted]; rfl, rfl, rfl⟩

theorem WorkedOut.alarmSound {old : Vector Point 158} {u t : State} (h : WorkedOut old u t) : AlarmSound t := by
  by_cases running : t.running = true
  · have alm := h.settled running
    refine ⟨?_, ?_, ?_, ?_⟩
    · rw [← pulls_iff, alm]; rfl
    · rw [← pulls_iff, alm]; rfl
    · rw [← pulls_iff, alm]; rfl
    · rw [if_pos ((running_iff t).1 running), alm]; rfl
  · have idle : t.phase ≠ .running := fun phase => running ((running_iff t).2 phase)
    rw [Bool.not_eq_true] at running
    have quiet : u.running = false := h.sources.running ▸ running
    have alm := h.followed running
    refine ⟨?_, ?_, ?_, ?_⟩
    · rw [alm, followed_reports quiet]; simp [Alarm.follow]
    · rw [alm, followed_reports quiet]; simp [Alarm.follow]
    · rw [alm, followed_reports quiet]; simp [Alarm.follow]
    · rw [if_neg idle, alm]; rfl

end Sys2Proof.Machine
end

section
/-! SUPPORT. What a command does to the Alarm Unit: leaves it with all that the points are worked out from, or works it
out at the event's end or at a start (O47, O48, O49). -/

namespace Sys2Proof.Machine

/-! ## Operations outside chapter 11 -/

/-- `t` has the Alarm Unit and the configuration of `s`. The default proofs are those of a `t` that leaves both
untouched. -/
structure AlarmApart (s t : State) : Prop where
  alm : t.alm = s.alm := by exact rfl
  config : t.config = s.config := by exact rfl

theorem AlarmApart.trans {s t u : State} (h : AlarmApart s t) (g : AlarmApart t u) : AlarmApart s u :=
  ⟨g.alm.trans h.alm, g.config.trans h.config⟩

theorem AlarmApart.ite {s t u : State} {b : Prop} [Decidable b] (h : AlarmApart s t) (g : AlarmApart s u) :
    AlarmApart s (if b then t else u) := by
  split
  · exact h
  · exact g

theorem requestTrigger_apart (s : State) : AlarmApart s (requestTrigger s) :=
  ⟨requestTrigger_alm s, (requestTrigger_frame s).config⟩

theorem triggerIf_apart (b : Bool) (s : State) : AlarmApart s (triggerIf b s) :=
  ⟨triggerIf_alm b s, (triggerIf_frame b s).config⟩

theorem handOn_apart (s : State) : AlarmApart s (handOn s) := ⟨handOn_alm s, (handOn_frame s).config⟩

theorem refresh_apart (s : State) (n : Station) : AlarmApart s (refresh s n) :=
  AlarmApart.trans {} (triggerIf_apart _ _)

theorem unheardEval_apart (s : State) : AlarmApart s (unheardEval s) := .ite {} {}

theorem unheardEnd_apart (s : State) (a : Announce) : AlarmApart s (unheardEnd s a) :=
  .ite (AlarmApart.trans {} (requestTrigger_apart _)) {}

theorem takeAnnounce_apart (s : State) (n : Station) (a : Announce) : AlarmApart s (takeAnnounce s n a) := by
  have taken : ∀ u, AlarmApart u (unheardEval (unheardEnd u a)) := fun u =>
    (unheardEnd_apart u a).trans (unheardEval_apart _)
  exact (refresh_apart s n).trans (AlarmApart.trans {} (taken _))

theorem decodeSlot_apart (s : State) (r : Recv) (x : Sample) : AlarmApart s (decodeSlot s r x) := .ite {} {}

theorem edgeBack_apart (s : State) (c : Cand) : AlarmApart s (edgeBack s c) := .ite {} {}

theorem correct_apart (s : State) (hit : Bool) : AlarmApart s (correct s hit) :=
  AlarmApart.trans {} (triggerIf_apart _ _)

theorem reselect_apart (s : State) : AlarmApart s (reselect s) := by
  obtain ⟨b, st, lock, h, e, n, eq⟩ := reselect_eq s
  rw [eq]
  exact AlarmApart.trans {} (triggerIf_apart b _)

theorem completeGate_apart (s : State) (c : Cand) (count : Nat) : AlarmApart s (completeGate s c count) := by
  have judged : ∀ r, AlarmApart s (reselect (s.setCand c r)) := fun r => AlarmApart.trans {} (reselect_apart _)
  exact .ite ((judged _).trans (correct_apart _ _)) (judged _)

theorem learn_apart (s : State) (r : Recv) : AlarmApart s (learn s r) := .ite {} {}

theorem learnAll_apart (s : State) : AlarmApart s (learnAll s) := by
  unfold learnAll
  induction idx 20 generalizing s with
  | nil => exact {}
  | cons r rs ih => exact (learn_apart s r).trans (ih _)

theorem readCapture_apart (s : State) : AlarmApart s (readCapture s) := by
  unfold readCapture
  split <;> exact {}

theorem lockCand_apart (s : State) (c : Cand) (on : Bool) : AlarmApart s (lockCand s c on) :=
  .ite (.ite {} {}) (.ite {} {})

theorem sweepStart_apart (s : State) (sp : Spare) (m : Mode) (n : Nat) (k : Bool) (f : Option Port) :
    AlarmApart s (sweepStart s sp m n k f) := .ite {} {}

theorem sweepStop_apart (s : State) : AlarmApart s (sweepStop s) := by
  unfold sweepStop
  dsimp only
  split
  · exact {}
  · exact .ite {} {}

/-! ## What an event does before its points are worked out -/

/-- An event has brought `s` to `x`, whose points are to be worked out: records left the log at a read alone, which
leaves the points and ends LOGOVR; no latch is set, and where points changed LOGOVR stays (R171, R172, R176). -/
structure AlarmReady (reads : Prop) (s x : State) : Prop where
  log : ∃ k, (k = 0 ∨ reads) ∧ x.alm.log = s.alm.log.drop k ∧ x.alm.logOvr = (s.alm.logOvr && k == 0)
  latched : ∀ i, (tget x.alm.points i).latched = true → (tget s.alm.points i).latched = true
  one : x.alm.points = s.alm.points ∨ x.alm.logOvr = s.alm.logOvr
  config : x.config = s.config

theorem AlarmApart.ready {s x : State} (h : AlarmApart s x) (reads : Prop) : AlarmReady reads s x where
  log := ⟨0, .inl rfl, by simp [h.alm], by simp [h.alm]⟩
  latched := by rw [h.alm]; exact fun _ => id
  one := by rw [h.alm]; exact .inl rfl
  config := h.config

theorem AlarmReady.after {reads : Prop} {r s x : State} (h : AlarmReady reads s x) (before : AlarmApart r s) :
    AlarmReady reads r x := by
  obtain ⟨log, latched, one, config⟩ := h
  rw [before.alm] at log latched one
  exact ⟨log, latched, one, config.trans before.config⟩

theorem AlarmReady.trans {reads : Prop} {s x y : State} (h : AlarmReady reads s x) (after : AlarmApart x y) :
    AlarmReady reads s y := by
  obtain ⟨log, latched, one, config⟩ := h
  rw [← after.alm] at log latched one
  exact ⟨log, latched, one, after.config.trans config⟩

theorem readLog_ready {reads : Prop} (h : reads) (s : State) (n : Nat) : AlarmReady reads s (readLog s n) where
  log := by
    refine ⟨s.logTaken n, .inr h, rfl, ?_⟩
    rw [readLog_logOvr]
    cases s.logTaken n <;> simp
  latched _ := id
  one := .inl rfl
  config := rfl

/-- New points that bear no new latch. -/
theorem withPoints_ready (reads : Prop) (s : State) (f : Fin 158 → Point)
    (h : ∀ i, (f i).latched = true → (tget s.alm.points i).latched = true) :
    AlarmReady reads s { s with alm := { s.alm with points := tab f } } where
  log := ⟨0, .inl rfl, rfl, by simp⟩
  latched i := by rw [tget_tab]; exact h i
  one := .inr rfl
  config := rfl

theorem clearLatches_ready (reads : Prop) (s : State) : AlarmReady reads s (clearLatches s) :=
  withPoints_ready reads s _ fun _ latched => (Bool.and_eq_true_iff.1 latched).1

theorem acknowledge_ready (reads : Prop) (s : State) : AlarmReady reads s (acknowledge s) :=
  withPoints_ready reads s _ fun _ latched => by
    dsimp only at latched
    split at latched <;> exact latched

/-- LOGR, CLRL and ACO alone reach the Alarm Unit. -/
theorem requestEffect_alarmReady {reads : Prop} (s : State) (r : Request) (h : ∀ n, r = .logr n → reads) :
    AlarmReady reads s (requestEffect s r) := by
  have apart : ∀ {t : State}, AlarmApart s t → AlarmReady reads s t := fun h => h.ready reads
  cases r with
  | logr n => exact readLog_ready (h n rfl) s n
  | clrl => exact clearLatches_ready reads s
  | aco => exact acknowledge_ready reads s
  | lrn rc => exact apart (learn_apart s rc)
  | lrnAll => exact apart (learnAll_apart s)
  | capr => exact apart (readCapture_apart s)
  | slk sp on => exact apart (AlarmApart.trans {} (triggerIf_apart _ _))
  | trefLockout c on => exact apart (lockCand_apart s c on)
  | swpStart sp m n k f => exact apart (sweepStart_apart s sp m n k f)
  | swpStop => exact apart (sweepStop_apart s)
  | stat | view | portPart | spar | timgStation | timgCand | mask | force | manual | lockout | clear | trefForce
  | trefClear | swpStep | pairClear | rsta => exact apart {}

/-! ## The outcomes of a command -/

/-- How a command leaves the Alarm Unit; `reads` says that it may read the log. -/
inductive AlarmOutcome (reads : Prop) (s : State) : State → Prop
  /-- As it was, with all that the points are worked out from. -/
  | kept {t : State} (alm : t.alm = s.alm) (sources : PointSources s t) : AlarmOutcome reads s t
  /-- Worked out; in normal running, at the end of an event. -/
  | workedOut {u t : State} (out : WorkedOut s.alm.points u t)
      (ready : s.running = true → t.running = true → AlarmReady reads s u) : AlarmOutcome reads s t

theorem alarmOutcome_refl (reads : Prop) (s : State) : AlarmOutcome reads s s := .kept rfl {}

/-- An event's end works the Alarm Unit out after all that it has handed on (R165). -/
theorem conclude_workedOut (s0 s : State) : WorkedOut s0.alm.points (handOn s) (conclude s0 s) := by
  have frame : EventFrame (handOn s) (conclude s0 s) := alarms_frame s0.alm _
  refine ⟨?_, frame.seconds, conclude_alm s0 s⟩
  exact
    { running := by simp [State.running]
      halted := by simp [State.halted]
      config := frame.config
      cfgdef := frame.cfgdef
      recvs := by rw [frame.scan]
      dec := frame.dec
      lost := by rw [frame.cap]
      isolated := by rw [frame.peers]
      unheard := by rw [frame.peers]
      peerlost := by simp only [State.peerlost, State.peer, frame.peers]
      linefault := (congrArg (fun l : BayLine => l.linefault.isSome) frame.line :)
      protfail := fun p => protfail_congr (by simp [State.prec]) (by simp [State.prec])
      actfail := fun p => by simp [State.actfail, State.used, State.pair, State.dport, frame.config]
      exfail := by simp
      selection := fun p => by simp [State.prec]
      reffail := fun c => by simp [State.reffail, State.cand]
      timing := by simp
      hoexpired := hoexpired_congr (conclude_freq s0 s) frame.config
      squelch := by simp }

theorem WorkedOut.respond {old : Vector Point 158} {u t : State} (h : WorkedOut old u t) (src : Station) (code : Byte)
    (r : Result) (data : List Byte) : WorkedOut old u (respond t src code r data) :=
  ⟨{ h.sources with }, h.seconds, h.alm⟩

theorem AlarmReady.conclude {reads : Prop} {s x : State} (h : AlarmReady reads s x) :
    AlarmOutcome reads s (conclude s x) :=
  .workedOut (conclude_workedOut s x) fun _ _ => h.trans (handOn_apart x)

theorem AlarmReady.respond {reads : Prop} {s x : State} (h : AlarmReady reads s x) (src : Station) (code : Byte)
    (r : Result) (data : List Byte) : AlarmOutcome reads s (respond (Machine.conclude s x) src code r data) :=
  .workedOut ((conclude_workedOut s x).respond src code r data) fun _ _ => h.trans (handOn_apart x)

theorem AlarmApart.conclude {s x : State} (h : AlarmApart s x) (reads : Prop) : AlarmOutcome reads s (conclude s x) :=
  (h.ready reads).conclude

/-- An event that does not begin in normal running. -/
theorem conclude_alarmOutcome_of_quiet {s : State} (quiet : s.running = false) (reads : Prop) (x : State) :
    AlarmOutcome reads s (conclude s x) :=
  .workedOut (conclude_workedOut s x) fun running => absurd (running.symm.trans quiet) (by decide)

/-! ## Starts and the settling -/

/-- A start works the points out from the reset values (R177). -/
theorem beginStart_alarmOutcome (reads : Prop) (s u : State) (straps : BitVec 5) :
    AlarmOutcome reads s (beginStart u straps) := by
  set v : State := { beginStart u straps with alm := u.alm }
  have quiet : v.running = false := by
    have phase : v.phase = if straps.toNat < 30 then .loading false else .halt := rfl
    rw [State.running, phase]
    split <;> rfl
  refine .workedOut (u := v) ⟨{}, rfl, ?_⟩ fun _ running => ?_
  · rw [if_neg (by simp [quiet])]; rfl
  · exact absurd (running.symm.trans quiet) (by decide)

theorem readFailed_alarmOutcome (reads : Prop) {s : State} {second : Bool} (temp : BitVec 9)
    (phase : s.phase = .loading second) : AlarmOutcome reads s (readFailed s second temp) := by
  have quiet : s.running = false := by simp [State.running, phase]
  unfold readFailed
  split
  · exact conclude_alarmOutcome_of_quiet quiet reads _
  · exact .kept rfl { running := by simp [State.running, phase], halted := by simp [State.halted, phase] }

/-! ## Requests and frames -/

theorem lineQuiet_alarmOutcome (reads : Prop) (s : State) : AlarmOutcome reads s (lineQuiet s) := .kept rfl {}

/-- The payload asks for a read of the log. -/
def AsksLog (payload : List Byte) : Prop := ∃ n, parse payload = some (.logr n)

theorem takeValid_alarmOutcome {s x : State} (before : AlarmApart s x) (src : Station) (code : Byte)
    {payload : List Byte} {r : Request} (parsed : parse payload = some r) :
    AlarmOutcome (AsksLog payload) s (takeValid s x src code r) := by
  unfold takeValid
  split
  · exact (before.ready _).respond _ _ _ _
  · have effect : AlarmReady (AsksLog payload) x (requestEffect x r) :=
      requestEffect_alarmReady x r fun n logr => ⟨n, logr ▸ parsed⟩
    exact (effect.after before).respond _ _ _ _

theorem takeForAll_alarmOutcome {s x : State} (before : AlarmApart s x) (reads : Prop) (src : Station)
    (payload : List Byte) : AlarmOutcome reads s (takeForAll s x src payload) := by
  unfold takeForAll
  split
  · split
    · exact ((acknowledge_ready reads x).after before).conclude
    · exact ((clearLatches_ready reads x).after before).conclude
    · exact before.conclude reads
  · exact before.conclude reads

theorem takeRequest_alarmOutcome {s x : State} (before : AlarmApart s x) (src : Station) (all : Bool)
    (payload : List Byte) : AlarmOutcome (AsksLog payload) s (takeRequest s x src all payload) := by
  have ready := before.ready (AsksLog payload)
  unfold takeRequest
  dsimp only
  split
  · exact ready.conclude
  split
  · exact takeForAll_alarmOutcome before _ src payload
  split
  · exact ready.conclude
  split
  · exact ready.respond _ _ _ _
  split
  · exact ready.respond _ _ _ _
  split
  · exact ready.respond _ _ _ _
  · next parsed => exact takeValid_alarmOutcome before src _ parsed

theorem handRequest_alarmOutcome (s : State) (src : Station) (tgt : BitVec 6) (payload : List Byte) :
    AlarmOutcome (AsksLog payload) s (handRequest s (lineQuiet s) src tgt payload) := by
  have heard : AlarmApart s (refresh (lineQuiet s) src) := AlarmApart.trans {} (refresh_apart (lineQuiet s) src)
  have handed := heard.trans (handOn_apart _)
  unfold handRequest
  dsimp only
  split
  · exact takeRequest_alarmOutcome handed src true payload
  split
  · exact takeRequest_alarmOutcome handed src false payload
  · exact heard.conclude _

theorem requestArrives_alarmOutcome (s : State) (src : Station) (tgt : BitVec 6) (payload : List Byte) :
    AlarmOutcome (AsksLog payload) s (requestArrives s src tgt payload) := by
  unfold requestArrives
  split
  · exact handRequest_alarmOutcome s src tgt payload
  · exact lineQuiet_alarmOutcome _ s

theorem AlarmOutcome.mono {p q : Prop} {s t : State} (h : AlarmOutcome p s t) (imp : p → q) : AlarmOutcome q s t := by
  cases h with
  | kept alm sources => exact .kept alm sources
  | workedOut out ready =>
    refine .workedOut out fun running running' => ?_
    obtain ⟨⟨k, why, log⟩, latched, one, config⟩ := ready running running'
    exact ⟨⟨k, why.imp_right imp, log⟩, latched, one, config⟩

theorem handFrame_alarmOutcome {reads : Prop} (h : reads) (s : State) (f : Frame) :
    AlarmOutcome reads s (handFrame s (lineQuiet s) f) := by
  unfold handFrame
  dsimp only
  split
  · split
    · exact (AlarmApart.trans {} (takeAnnounce_apart (lineQuiet s) _ _)).conclude reads
    · exact lineQuiet_alarmOutcome reads s
  split
  · exact (handRequest_alarmOutcome s _ _ _).mono fun _ => h
  · exact (AlarmApart.trans {} (refresh_apart (lineQuiet s) _)).conclude reads

end Sys2Proof.Machine
end

section
/-! SUPPORT. The Alarm Unit over every command, and its two invariants over every step (O47, O48). -/

namespace Sys2Proof.Machine

/-! ## Every command -/

/-- The commands that may read the log (R176): LOGR, and a frame that carries it. -/
def MayReadLog (c : Instr) : Prop := (∃ src tgt n, c = .logr src tgt n) ∨ ∃ bits, c = .frameArrival bits

theorem parse0_ne_logr (code n : Nat) : parse0 code ≠ some (.logr n) := by
  unfold parse0
  split <;> simp

theorem code_of_parse1_logr {code n : Nat} {a : Byte} (h : parse1 code a = some (.logr n)) : code = 6 := by
  unfold parse1 at h
  split at h
  case h_3 => split at h <;> simp at h
  case h_5 => split at h <;> simp at h
  all_goals simp at h ⊢

theorem parse2_ne_logr (code n : Nat) (a b : Byte) : parse2 code a b ≠ some (.logr n) := by
  unfold parse2
  split
  case h_1 =>
    simp only [ne_eq, Option.bind_eq_some_iff, not_exists, not_and]
    intro p _
    split <;> simp
  case h_4 => split <;> simp
  all_goals simp [Option.bind_eq_some_iff]

theorem parse3_ne_logr (code n : Nat) (a b c : Byte) : parse3 code a b c ≠ some (.logr n) := by
  unfold parse3
  split
  · simp only [ne_eq, Option.bind_eq_some_iff, not_exists, not_and]
    intro p _
    split <;> simp
  · simp

theorem parse6_ne_logr (code n : Nat) (a sp m k j f : Byte) : parse6 code a sp m k j f ≠ some (.logr n) := by
  unfold parse6
  split
  · split <;> simp [swpStartOf, Option.bind_eq_some_iff]
  · simp

/-- The code of LOGR and one parameter byte (12.2). -/
theorem parse_eq_logr {payload : List Byte} {n : Nat} (h : parse payload = some (.logr n)) :
    ∃ b, payload = [6, b] := by
  unfold parse at h
  split at h
  · exact absurd h (parse0_ne_logr _ n)
  · next code b => exact ⟨b, by rw [BitVec.eq_of_toNat_eq (y := (6 : Byte)) (code_of_parse1_logr h)]⟩
  · exact absurd h (parse2_ne_logr _ n _ _)
  · exact absurd h (parse3_ne_logr _ n _ _ _)
  · exact absurd h (parse6_ne_logr _ n _ _ _ _ _ _)
  · cases h

/-- Of the request rows LOGR's alone asks for a read of the log. -/
theorem mayReadLog_of_requestOf {c : Instr} {src : Station} {tgt : BitVec 6} {payload : List Byte}
    (row : requestOf c = some (src, tgt, payload)) (asks : AsksLog payload) : MayReadLog c := by
  obtain ⟨n, logr⟩ := asks
  obtain ⟨b, rfl⟩ := parse_eq_logr logr
  refine .inl ⟨src, tgt, b, ?_⟩
  cases c <;> simp [requestOf] at row ⊢
  exact row

/-- Every next state is one of the outcomes. -/
def AlarmsOut (reads : Prop) (s : State) (o : Host.Outcome State Fault Refusal) : Prop :=
  EveryNext (AlarmOutcome reads s) o

section

variable {reads : Prop} {s : State}

theorem alarmsOut_next {t : State} (h : AlarmOutcome reads s t) : AlarmsOut reads s (.next t) :=
  (everyNext_next _ t).2 h

theorem alarmsOut_same : AlarmsOut reads s (.next s) := alarmsOut_next (alarmOutcome_refl reads s)

/-- A change under a condition, without which nothing changes. -/
theorem alarmsOut_ite {t : State} {c : Prop} [Decidable c] (h : AlarmOutcome reads s t) :
    AlarmsOut reads s (if c then .next t else .next s) := everyNext_ite h (alarmOutcome_refl reads s)

/-- An event under a condition. -/
theorem alarmsOut_event {x : State} {c : Prop} [Decidable c] (h : AlarmApart s x) :
    AlarmsOut reads s (if c then .next (conclude s x) else .next s) := alarmsOut_ite (h.conclude reads)

end

section

variable (reads : Prop) (s : State)

theorem execConfigReadEnd_alarmsOut (r : ConfigRead) (temp : BitVec 9) :
    AlarmsOut reads s (execConfigReadEnd r temp s) := by
  unfold execConfigReadEnd
  split
  · next second phase =>
    have quiet : s.running = false := by simp [State.running, phase]
    split
    · exact everyNext_ite (conclude_alarmOutcome_of_quiet quiet reads _) (readFailed_alarmOutcome reads temp phase)
    · exact alarmsOut_next (readFailed_alarmOutcome reads temp phase)
  all_goals exact alarmsOut_same

theorem execConfigReadTimeout_alarmsOut (temp : BitVec 9) : AlarmsOut reads s (execConfigReadTimeout temp s) := by
  unfold execConfigReadTimeout
  split
  · next second phase => exact alarmsOut_ite (readFailed_alarmOutcome reads temp phase)
  all_goals exact alarmsOut_same

theorem execAttemptStart_alarmsOut (elapsed : Nat) : AlarmsOut reads s (execAttemptStart elapsed s) := by
  unfold execAttemptStart
  split
  · exact alarmsOut_same
  split
  · split
    · exact alarmsOut_next (.kept rfl {})
    · exact alarmsOut_same
  · exact alarmsOut_same

/-- LINEFAULT runs on when a frame leaves the hand. -/
theorem leaveHand_linefault (l : BayLine) (c : FrameClass) : (leaveHand l c).linefault = l.linefault := by
  cases c <;> rfl

theorem execFrameSent_alarmsOut (straps : BitVec 5) : AlarmsOut reads s (execFrameSent straps s) := by
  unfold execFrameSent
  split
  · next held _ =>
    split
    · exact everyNext_ite (beginStart_alarmOutcome reads s _ straps)
        (.kept rfl { linefault := congrArg Option.isSome (leaveHand_linefault s.line held.cls) })
    · exact alarmsOut_same
  · exact alarmsOut_same

theorem execCollision_alarmsOut (straps : BitVec 5) : AlarmsOut reads s (execCollision straps s) := by
  unfold execCollision
  split
  · next held _ =>
    have dropped : AlarmOutcome reads s (dropFrame s held.cls) := AlarmApart.conclude {} reads
    split
    · split
      · exact alarmsOut_next (.kept rfl {})
      · exact everyNext_ite (beginStart_alarmOutcome reads s _ straps) dropped
    · exact alarmsOut_same
  · exact alarmsOut_same

theorem execClaimWindowExpiry_alarmsOut (w : WindowOwner) : AlarmsOut reads s (execClaimWindowExpiry w s) := by
  unfold execClaimWindowExpiry
  split
  · exact alarmsOut_event {}
  split
  · exact alarmsOut_event {}
  · exact alarmsOut_same

theorem execDriverAnswer_alarmsOut (a : DriverAnswer) : AlarmsOut reads s (execDriverAnswer a s) := by
  unfold execDriverAnswer
  split
  · exact alarmsOut_event {}
  · exact alarmsOut_same

theorem execAllowanceExpiry_alarmsOut : AlarmsOut reads s (execAllowanceExpiry s) := by
  unfold execAllowanceExpiry
  split
  · exact alarmsOut_event {}
  · exact alarmsOut_same

theorem execRetryTimerExpiry_alarmsOut (p : Port) : AlarmsOut reads s (execRetryTimerExpiry p s) := by
  unfold execRetryTimerExpiry
  split
  · split
    · exact everyNext_ite (AlarmApart.conclude {} reads) (AlarmApart.conclude {} reads)
    · exact alarmsOut_same
  · exact alarmsOut_same

theorem execStepTimerExpiry_alarmsOut : AlarmsOut reads s (execStepTimerExpiry s) := by
  unfold execStepTimerExpiry
  dsimp only
  split
  · exact everyNext_ite (AlarmApart.conclude {} reads) (.kept rfl {})
  · exact alarmsOut_same

theorem execSecondsTick_alarmsOut (temp : BitVec 9) : AlarmsOut reads s (execSecondsTick temp s) := by
  have ticked : AlarmApart s (tickSeconds s temp) := {}
  unfold execSecondsTick
  dsimp only
  split
  · exact everyNext_ite ((ticked.trans (correct_apart _ _)).conclude reads) (ticked.conclude reads)
  · exact alarmsOut_next (.kept rfl {})

theorem execListenEnd_alarmsOut : AlarmsOut reads s (execListenEnd s) := by
  unfold execListenEnd
  split
  · next phase =>
    exact alarmsOut_ite (conclude_alarmOutcome_of_quiet (by simp [State.running, phase]) reads _)
  all_goals exact alarmsOut_same

/-- A gate that starts leaves its candidate's state, and so REFFAIL (R135, R145). -/
theorem execGateStart_alarmsOut (c : Cand) : AlarmsOut reads s (execGateStart c s) := by
  have state : ∀ x, ((s.setCand c { s.cand c with gate := true }).cand x).state = (s.cand x).state := fun x => by
    rw [setCand_cand]
    split
    · next same => rw [same]
    · rfl
  exact alarmsOut_ite (.kept rfl { reffail := fun x => by unfold State.reffail; rw [state] })

end

/-- A frame may carry LOGR (R176). -/
theorem execFrameArrival_alarmsOut {reads : Prop} (h : reads) (s : State) (bits : List Bool) :
    AlarmsOut reads s (execFrameArrival bits s) := by
  have idle := lineQuiet_alarmOutcome reads s
  unfold execFrameArrival
  split
  · split
    · exact everyNext_ite (handFrame_alarmOutcome h s _) idle
    · exact alarmsOut_next idle
  · exact alarmsOut_next idle

/-- Every command: an event works the Alarm Unit out at its end, a start from the reset values, and any other command
leaves it as it was. -/
theorem exec_alarmsOut (c : Instr) (s : State) : AlarmsOut (MayReadLog c) s (exec c s) := by
  cases row : requestOf c with
  | some r =>
    obtain ⟨src, tgt, payload⟩ := r
    rw [exec_of_requestOf s row]
    exact alarmsOut_next ((requestArrives_alarmOutcome s src tgt payload).mono (mayReadLog_of_requestOf row))
  | none =>
    cases c with
    | fullReset straps => exact alarmsOut_next (beginStart_alarmOutcome _ s _ straps)
    | configReadEnd r temp => exact execConfigReadEnd_alarmsOut _ s r temp
    | configReadTimeout temp => exact execConfigReadTimeout_alarmsOut _ s temp
    | slotCompletion => exact alarmsOut_event (AlarmApart.trans {} (decodeSlot_apart _ _ _))
    | lineActivity => exact alarmsOut_next (.kept rfl {})
    | lineIdle => exact alarmsOut_next (lineQuiet_alarmOutcome _ s)
    | frameArrival bits => exact execFrameArrival_alarmsOut (.inr ⟨bits, rfl⟩) s bits
    | attemptStart elapsed => exact execAttemptStart_alarmsOut _ s elapsed
    | collision straps => exact execCollision_alarmsOut _ s straps
    | frameSent straps => exact execFrameSent_alarmsOut _ s straps
    | sampleAnswer | spacingTimerExpiry | routineTimerExpiry => exact alarmsOut_ite (.kept rfl {})
    | peerExpiry n => exact alarmsOut_event (AlarmApart.trans {} (unheardEval_apart _))
    | silenceTimerExpiry | unheardTimerExpiry => exact alarmsOut_event (AlarmApart.trans {} (requestTrigger_apart _))
    | claimWindowExpiry w => exact execClaimWindowExpiry_alarmsOut _ s w
    | driverAnswer a => exact execDriverAnswer_alarmsOut _ s a
    | allowanceExpiry => exact execAllowanceExpiry_alarmsOut _ s
    | retryTimerExpiry p => exact execRetryTimerExpiry_alarmsOut _ s p
    | stepTimerExpiry => exact execStepTimerExpiry_alarmsOut _ s
    | edgeReturn c => exact alarmsOut_event (edgeBack_apart s c)
    | gateCompletion c count => exact alarmsOut_event (completeGate_apart s c count)
    | secondsTick temp => exact execSecondsTick_alarmsOut _ s temp
    | listenEnd => exact execListenEnd_alarmsOut _ s
    | gateStart c => exact execGateStart_alarmsOut _ s c
    | linefaultTimerExpiry | quarantineEnd | holdoffExpiry | wtrExpiry | recoveryTimerExpiry | edgeLoss | gateOverrun
    | holdoverLimitExpiry => exact alarmsOut_event {}
    | _ => cases row

/-! ## Every step -/

/-- The passing of 10 ms starts and ends no timer, and so moves no condition. -/
theorem tick_pointSources (s : State) : PointSources s (tick s) where
  isolated := by simp only [tick]
  unheard := by simp only [tick]
  exfail := by simp only [tick]
  peerlost := by simp [State.peerlost, State.peer, tick, PeerRec.tick]
  linefault := by simp [tick, tickTimer]
  protfail p := protfail_congr (by simp [State.prec, tick, PortRec.tick]) (by simp [State.prec, tick, PortRec.tick])
  actfail p := by simp [State.actfail, State.used, State.pair, State.dport, tick, PortDrv.tick]
  selection p := by simp [State.prec, tick, PortRec.tick]

/-- A step is a command of the state with the queue's rest, or lets time pass; the queue is nothing to the points. -/
theorem step_alarmOutcome {s t : State} (h : step s = .next t) : ∃ u, u.alm = s.alm ∧ PointSources s u ∧
    AlarmOutcome True u t := by
  unfold step at h
  split at h
  · next c rest _ =>
    exact ⟨{ s with pending := rest }, rfl, {}, (exec_alarmsOut c _ t h).mono fun _ => trivial⟩
  · cases h; exact ⟨s, rfl, {}, .kept rfl (tick_pointSources s)⟩

theorem PointsSound.congr {s t : State} (sound : PointsSound s) (alm : t.alm = s.alm) (sources : PointSources s t) :
    PointsSound t :=
  (pointsSound_iff t).2 fun i => by
    rw [alm]
    exact sources.fits (fun _ => by rw [alm]) ((pointsSound_iff s).1 sound i)

theorem AlarmSound.congr {s t : State} (sound : AlarmSound s) (alm : t.alm = s.alm) (sources : PointSources s t) :
    AlarmSound t := by
  have phase : t.phase = .running ↔ s.phase = .running := by
    rw [← running_iff, ← running_iff, sources.running]
  obtain ⟨crit, maj, min, summary⟩ := sound
  refine ⟨?_, ?_, ?_, ?_⟩
  · rwa [alm]
  · rwa [alm]
  · rwa [alm]
  · simp only [alm, phase, summary]

/-- Settles O48: points worked out stand as the conditions give them, and no other step moves a condition. -/
theorem pointsFollowTheirConditions : Obligations.PointsFollowTheirConditions := by
  intro s t sound h
  obtain ⟨u, unqueued, same, outcome⟩ := step_alarmOutcome h
  cases outcome with
  | kept alm sources => exact (sound.congr unqueued same).congr alm sources
  | workedOut out => exact out.pointsSound

/-- Settles O47: lines and summary are formed with the points. -/
theorem linesAndSummaryFollowThePoints : Obligations.LinesAndSummaryFollowThePoints := by
  intro s t sound h
  obtain ⟨u, unqueued, same, outcome⟩ := step_alarmOutcome h
  cases outcome with
  | kept alm sources => exact (sound.congr unqueued same).congr alm sources
  | workedOut out => exact out.alarmSound

end Sys2Proof.Machine
end

section
/-! SUPPORT. The log records of an event (O49): the records are those of the changes of reports, and LOGOVR's own report
falls alone. -/

namespace Sys2Proof.Machine

/-! ## The change of one point (R175) -/

theorem changeOf_eq (old new : Point) : changeOf old new =
    if new.reported = true ∧ old.reported = false then some .raised
    else if new.reported = false ∧ old.reported = true then some .cleared
    else if new.reported = true ∧ new.severity ≠ old.severity then some .changed
    else none := by
  simp [changeOf, and_comm]

/-- A point whose report does not rise and whose severity stays is cleared at the most. -/
theorem changeOf_of_falls {old new : Point} (severity : new.severity = old.severity)
    (falls : new.reported = true → old.reported = true) :
    changeOf old new = if old.reported = true ∧ new.reported = false then some .cleared else none := by
  rw [changeOf_eq]
  cases reported : new.reported with
  | true => simp [falls reported, severity]
  | false => simp

/-! ## LOGOVR's point (R164, R175, R176) -/

/-- In normal running LOGOVR's point is reported while its condition is active or it is latched, unless masked. -/
theorem logovr_reported {s : State} {x : Point} (fits : s.PointFits logovrPoint x) (running : s.running = true) :
    x.reported = ((s.alm.logOvr || x.latched) && !tget s.config.kindMask Kind.logovr.place) := by
  have active : x.active = s.alm.logOvr := fits.active
  have masked : x.masked = tget s.config.kindMask Kind.logovr.place := by
    rw [fits.masked, masked_of_le s (by decide)]
    change (_ && !(_ && false)) = _
    simp only [Bool.and_false, Bool.not_false, Bool.and_true]
    rfl
  have suppressed : x.suppressed = false := fits.suppressed
  rw [fits.reported, if_pos running, active, masked, suppressed, Bool.not_false, Bool.and_true]

theorem logovr_latchable (s : State) : s.latchable .logovr = true := by simp [State.latchable]

/-- Its condition latches it at every raise. -/
theorem logovr_latched {s : State} {x : Point} (fits : s.PointFits logovrPoint x) (running : s.running = true)
    (logOvr : s.alm.logOvr = true) : x.latched = true :=
  fits.latched running (fits.active.trans logOvr) (logovr_latchable s)

theorem pointNow_logovr_latched (s : State) : (s.pointNow logovrPoint).latched =
    ((tget s.alm.points logovrPoint).latched || s.alm.logOvr) := by
  change (_ || (s.alm.logOvr && s.latchable .logovr)) = _
  rw [logovr_latchable, Bool.and_true]

/-- LOGOVR's point is worked out once, or the event's records have filled the log. -/
theorem WorkedOut.logovr_once {old : Vector Point 158} {u t : State} (out : WorkedOut old u t)
    (running : t.running = true) : tget t.alm.points logovrPoint = u.pointNow logovrPoint ∨
      (t.alm.logOvr = true ∧ u.alm.logOvr = false) := by
  have running' : u.running = true := out.sources.running ▸ running
  rw [out.settled running, settle_logovrPoint running']
  split
  · next fills => exact .inr (by simpa [State.fillsLog] using fills)
  · exact .inl rfl

section

variable {reads : Prop} {s u t : State} (sound : PointsSound s) (began : s.running = true)
  (out : WorkedOut s.alm.points u t) (running : t.running = true) (ready : AlarmReady reads s u)

include out running in
theorem logovr_reported_once : (u.pointNow logovrPoint).reported =
    ((u.alm.logOvr || (tget u.alm.points logovrPoint).latched) &&
      !tget u.config.kindMask Kind.logovr.place) := by
  have running' : u.running = true := out.sources.running ▸ running
  rw [logovr_reported (pointNow_fits running' _) running', pointNow_logovr_latched]
  cases u.alm.logOvr <;> simp

include out running in
/-- What is reported before the records fill the log is reported after it. -/
theorem logovr_stays (reported : (u.pointNow logovrPoint).reported = true) :
    (tget t.alm.points logovrPoint).reported = true := by
  rcases out.logovr_once running with once | ⟨full, -⟩
  · rw [once, reported]
  · rw [logovr_reported_once out running, Bool.and_eq_true] at reported
    rw [logovr_reported ((pointsSound_iff t).1 out.pointsSound _) running, full, out.sources.config, reported.2]
    rfl

include sound began out running ready

/-- An event raises no report of LOGOVR before its records fill the log. -/
theorem logovr_falls (reported : (u.pointNow logovrPoint).reported = true) :
    (tget s.alm.points logovrPoint).reported = true := by
  have was := (pointsSound_iff s).1 sound logovrPoint
  have latches := logovr_latched was began
  obtain ⟨⟨k, -, -, logOvr⟩, latched, -, config⟩ := ready
  have stood := latched logovrPoint
  rw [logovr_reported_once out running, config] at reported
  rw [logovr_reported was began]
  grind

/-- LOGOVR's report falls and yet stands at the event's end only where a latch without condition ended (R172) and the
records of the same event filled the log. -/
theorem logovr_falls_and_stands (before : (tget s.alm.points logovrPoint).reported = true)
    (fell : (u.pointNow logovrPoint).reported = false) (stands : (tget t.alm.points logovrPoint).reported = true) :
    s.alm.logOvr = false ∧ t.alm.logOvr = true := by
  have was := (pointsSound_iff s).1 sound logovrPoint
  have latches := logovr_latched was began
  obtain ⟨-, -, one, config⟩ := ready
  rw [logovr_reported_once out running, config] at fell
  rw [logovr_reported was began] at before
  rcases out.logovr_once running with once | ⟨full, free⟩
  · rw [once] at stands
    rw [logovr_reported_once out running, config] at stands
    exact absurd (stands.symm.trans fell) (by decide)
  · refine ⟨?_, full⟩
    rcases one with points | logOvr
    · rw [points] at fell
      grind
    · rw [← logOvr, free]

end

/-! ## The records of an event (R175) -/

/-- The records of the changes of reports from the points `old` to those of `t`, with LOGOVR's own change given. -/
def eventRecords (own : Option Transition) (old : Vector Point 158) (t : State) : List LogRec :=
  (idx 158).filterMap fun i =>
    (if i = 145 then own
      else if (tget t.alm.points i).reported = true ∧ (tget old i).reported = false then some .raised
      else if (tget t.alm.points i).reported = false ∧ (tget old i).reported = true then some .cleared
      else if (tget t.alm.points i).reported = true ∧ (tget t.alm.points i).severity ≠ (tget old i).severity then
        some .changed
      else none).map fun x => ⟨t.freq.seconds, i, x, (tget t.alm.points i).severity⟩

/-- The records that an event builds are those of the changes it leaves, with LOGOVR's own change as it was before they
filled the log. -/
theorem WorkedOut.records_eq {old : Vector Point 158} {u t : State} (out : WorkedOut old u t)
    (running : t.running = true) : records old u.pointsNow u.freq.seconds =
      eventRecords (changeOf (tget old logovrPoint) (u.pointNow logovrPoint)) old t := by
  have running' : u.running = true := out.sources.running ▸ running
  unfold records eventRecords
  refine List.filterMap_congr fun i _ => ?_
  rw [State.pointsNow, if_pos running', tget_tab, out.seconds]
  by_cases own : i = logovrPoint
  · have severity : (tget t.alm.points i).severity = (u.pointNow i).severity := by
      rw [((pointsSound_iff t).1 out.pointsSound i).severity, out.sources.severityOf]; rfl
    rw [severity, own]
    rfl
  · have once : tget t.alm.points i = u.pointNow i := by
      rw [out.settled running, settle_point running' old own]
    rw [once, if_neg (show ¬i = 145 from own), changeOf_eq]

theorem eventRecords_same (t : State) : eventRecords none t.alm.points t = [] := by
  refine List.filterMap_eq_nil_iff.2 fun i _ => ?_
  cases (tget t.alm.points i).reported <;> simp

/-- Settles O49: an event's records are those of the changes it leaves; any other command leaves the reports. -/
theorem changesOfReportsAreLogged : Obligations.ChangesOfReportsAreLogged := by
  intro c s t sound phase h phase'
  have began := (running_iff s).2 phase
  have running := (running_iff t).2 phase'
  cases exec_alarmsOut c s t h with
  | kept alm sources =>
    refine ⟨0, none, .inl rfl, ?_, ?_, fun unreported => ?_, fun _ => .inl rfl⟩
    · change t.alm.log = s.alm.log.drop 0 ++ (eventRecords none s.alm.points t).take _
      rw [← alm, eventRecords_same]
      simp
    · change t.alm.logOvr = (s.alm.logOvr && 0 == 0 || decide (_ < (eventRecords none s.alm.points t).length))
      rw [← alm, eventRecords_same]
      simp
    · rw [← alm, if_neg (by simp [unreported])]
  | @workedOut u _ out ready =>
    have ready := ready began running
    obtain ⟨k, reads, log, logOvr⟩ := ready.log
    have alm := out.settled running
    have built := out.records_eq running
    set own := changeOf (tget s.alm.points logovrPoint) (u.pointNow logovrPoint) with def_own
    have severity : (u.pointNow logovrPoint).severity = (tget s.alm.points logovrPoint).severity := by
      rw [((pointsSound_iff s).1 sound logovrPoint).severity]; rfl
    rw [changeOf_of_falls severity (logovr_falls sound began out running ready)] at def_own
    refine ⟨k, own, reads, ?_, ?_, fun unreported => ?_, fun reported => ?_⟩
    · change t.alm.log = s.alm.log.drop k ++ (eventRecords own s.alm.points t).take _
      rw [← built, ← log, alm]
      rfl
    · change t.alm.logOvr = (_ || decide (32 - (s.alm.log.drop k).length < (eventRecords own s.alm.points t).length))
      rw [← built, ← log, alm, settle_logOvr, logOvr]
      rfl
    · have fell : (u.pointNow logovrPoint).reported = false := by
        by_contra stood
        have stays := logovr_stays out running (by simpa using stood)
        exact absurd (stays.symm.trans unreported) (by decide)
      rw [def_own]
      simp only [fell, and_true]
      rfl
    · rw [def_own]
      split
      · next cleared =>
        obtain ⟨before, fell⟩ := cleared
        exact .inr ⟨rfl, before, logovr_falls_and_stands sound began out running ready before fell reported⟩
      · exact .inl rfl

end Sys2Proof.Machine
end

section
/-! SUPPORT. CLRL and ACO (O55): the points whose conditions come from the receivers, and the two requests to the
station and to ALL. -/

namespace Sys2Proof.Machine

/-! ## The points of the receivers (R163) -/

/-- The kinds whose conditions come from a receiver (chapters 1 and 2). -/
def Kind.ofReceiver : Kind → Bool
  | .los | .low | .deg | .tim | .tlost | .slos | .slow | .stim => true
  | _ => false

theorem ofReceiver_of_range : ∀ i : Fin 158, (i.val < 80 ∨ 128 ≤ i.val ∧ i.val < 140) →
    (pointOf i).1.ofReceiver = true := by decide +kernel

/-- Such a point is suppressed by such points alone (R168). -/
theorem suppressors_ofReceiver {k : Kind} (h : k.ofReceiver = true) (sc : Scope) :
    ∀ q ∈ suppressors k sc, q.1.ofReceiver = true := by
  cases k <;> simp [suppressors, Kind.ofReceiver] at h ⊢

/-- `t` has of `s` the receivers, their Decoder and the configuration. -/
structure SameReceivers (s t : State) : Prop where
  recvs : t.scan.recvs = s.scan.recvs
  dec : t.dec = s.dec
  config : t.config = s.config

theorem EventFrame.sameReceivers {r s t : State} (f : EventFrame r t) (scan : r.scan = s.scan) (dec : r.dec = s.dec)
    (config : r.config = s.config) : SameReceivers s t :=
  ⟨by rw [f.scan, scan], f.dec.trans dec, f.config.trans config⟩

section

variable {s t : State} (h : SameReceivers s t)
include h

theorem SameReceivers.cond {k : Kind} (receiver : k.ofReceiver = true) (sc : Scope) : t.cond k sc = s.cond k sc := by
  have recv : ∀ r, t.recv r = s.recv r := fun r => congrArg (tget · r) h.recvs
  have decv : ∀ r, t.decv r = s.decv r := fun r => by simp only [State.decv, h.dec]
  have timOf : ∀ r, t.timOf r = s.timOf r := fun r => by unfold State.timOf; rw [decv]
  have tlostOf : ∀ r, t.tlostOf r = s.tlostOf r := fun r => by unfold State.tlostOf; rw [decv]
  unfold State.cond
  split <;> simp_all [Kind.ofReceiver]

theorem SameReceivers.suppressed {k : Kind} (receiver : k.ofReceiver = true) (sc : Scope) :
    t.suppressed k sc = s.suppressed k sc :=
  suppressed_congr fun q mem => h.cond (suppressors_ofReceiver receiver sc q mem) q.2

theorem SameReceivers.masked {k : Kind} (receiver : k.ofReceiver = true) (sc : Scope) :
    t.masked k sc = s.masked k sc := by
  have ne : k ≠ .cfgdef := by rintro rfl; cases receiver
  simp [State.masked, State.used, h.config, h.dec, ne]

/-- Where the latch of a receiver's point is as in `s`, so is its report. -/
theorem SameReceivers.reported {i : Fin 158} (receiver : (pointOf i).1.ofReceiver = true)
    (latched : (tget t.alm.points i).latched = (tget s.alm.points i).latched) :
    (t.pointNow i).reported = (s.pointNow i).reported := by
  simp only [State.pointNow, State.latchable, h.cond receiver, h.suppressed receiver, h.masked receiver, h.config,
    latched]

end

/-! ## The arrival of CLRL and ACO (R179, R191, R192) -/

/-- A request to ALL reaches its own check (R179). -/
theorem arrives_forAll {s : State} {src : Station} {tgt : BitVec 6} (running : s.phase = .running)
    (rx : s.line.rx ≠ .ignoring) (free : s.restartPending = false) (other : src ≠ s.own) (target : tgt.toNat = 63)
    (code : Byte) (params : List Byte) :
    requestArrives s src tgt (code :: params) = takeForAll s (s.received src) src (code :: params) := by
  have hearing : (s.hearing && targetOk tgt && decide (src ≠ s.own) && !(code :: params).isEmpty) = true := by
    simp [State.hearing, State.settled, running, rx, targetOk, other, target]
  have free' : (s.received src).restartPending = false := (received_frame s src).restartPending.trans free
  unfold requestArrives
  rw [if_pos hearing]
  unfold handRequest
  dsimp only
  rw [if_pos target]
  change takeRequest s (s.received src) src true (code :: params) = _
  unfold takeRequest
  simp [free']

/-- The two requests that ALL may carry, by their codes. -/
def ActsOnAll (code : Byte) (r : Request) : Prop := code = 10 ∧ r = .clrl ∨ code = 11 ∧ r = .aco

section

variable {code : Byte} {r : Request} (h : ActsOnAll code r)
include h

theorem ActsOnAll.parsed : parse [code] = some r := by
  rcases h with ⟨rfl, rfl⟩ | ⟨rfl, rfl⟩ <;> rfl

theorem ActsOnAll.accepted (s : State) : s.refusal r = none := by
  rcases h with ⟨-, rfl⟩ | ⟨-, rfl⟩ <;> rfl

theorem ActsOnAll.effect_frame (s : State) (src : Station) : EventFrame
    { s with peers := s.heardFrom src, line := s.lineAfter s.line.responses } (requestEffect (s.received src) r) := by
  rcases h with ⟨-, rfl⟩ | ⟨-, rfl⟩
  · exact (received_frame s src).withAlm _
  · exact (received_frame s src).withAlm _

theorem ActsOnAll.takeForAll_eq {s : State} {src : Station} (running : s.phase = .running) (craft : 30 ≤ src.val) :
    takeForAll s (s.received src) src [code] = s.executed src r := by
  have taken : (isCraft src && !(s.received src).startUp) = true := by
    simp [isCraft, craft, State.startUp, received_running src running]
  unfold takeForAll
  rw [if_pos taken, h.parsed]
  rcases h with ⟨-, rfl⟩ | ⟨-, rfl⟩ <;> rfl

/-- To the station the request is answered DONE without data, to ALL it is not answered, and both leave the points as
its execution does. -/
theorem ActsOnAll.arrives {s : State} {src : Station} (running : s.phase = .running) (rx : s.line.rx ≠ .ignoring)
    (free : s.restartPending = false) (craft : 30 ≤ src.val) (other : src ≠ s.own) {all : Bool} {tgt : BitVec 6}
    (target : tgt.toNat = if all then 63 else s.own.val) (room : all = false → s.line.responses.length < 2) :
    (requestArrives s src tgt [code]).alm = (s.executed src r).alm ∧ EventFrame
      { s with
        peers := s.heardFrom src
        line := s.lineAfter (s.line.responses ++ if all then [] else [⟨src, [code, 0]⟩]) }
      (requestArrives s src tgt [code]) := by
  cases all with
  | true =>
    rw [arrives_forAll running rx free other target, h.takeForAll_eq running craft]
    refine ⟨rfl, ?_⟩
    rw [if_pos rfl, List.append_nil]
    exact (h.effect_frame s src).trans (conclude_frame s _)
  | false =>
    have takes : Takes s src tgt := ⟨running, rx, free, room rfl, craft, other, target⟩
    rw [takes.done h.parsed (h.accepted _)]
    have data : requestData (s.received src) (s.executed src r) r = [] := by
      rcases h with ⟨-, rfl⟩ | ⟨-, rfl⟩ <;> rfl
    rw [data]
    exact ⟨rfl, answered_done (r := r) [] (h.effect_frame s src)⟩

end

/-! ## The points after them (R171, R172) -/

theorem received_sameReceivers (s : State) (src : Station) : SameReceivers s (s.received src) :=
  (received_frame s src).sameReceivers rfl rfl rfl

/-- The state from which the points are worked out at the end of an executed request. -/
def State.effected (s : State) (src : Station) (r : Request) : State := handOn (requestEffect (s.received src) r)

theorem executed_workedOut (s : State) (src : Station) (r : Request) :
    WorkedOut s.alm.points (s.effected src r) (s.executed src r) := conclude_workedOut s _

theorem ActsOnAll.effected_sameReceivers {code : Byte} {r : Request} (h : ActsOnAll code r) (s : State)
    (src : Station) : SameReceivers s (s.effected src r) :=
  ((h.effect_frame s src).trans (handOn_frame _)).sameReceivers rfl rfl rfl

theorem ActsOnAll.effected_running {code : Byte} {r : Request} (h : ActsOnAll code r) {s : State}
    (running : s.phase = .running) (src : Station) : (s.effected src r).running = true := by
  refine (running_iff _).2 ?_
  rcases ((h.effect_frame s src).trans (handOn_frame _)).phase with kept | ⟨readback, -⟩
  · exact kept.trans running
  · exact absurd (running.symm.trans readback) (by decide)

theorem executed_point {s : State} {src : Station} {r : Request} (running : (s.effected src r).running = true)
    {i : Fin 158} (receiver : (pointOf i).1.ofReceiver = true) :
    tget (s.executed src r).alm.points i = (s.effected src r).pointNow i := by
  have own : i ≠ logovrPoint := by rintro rfl; cases receiver
  have running' : (s.executed src r).running = true := (executed_workedOut s src r).sources.running.trans running
  rw [(executed_workedOut s src r).settled running', settle_point running _ own]

theorem effected_clrl_point (s : State) (src : Station) (i : Fin 158) :
    tget (s.effected src .clrl).alm.points i = { tget s.alm.points i with
      latched := (tget s.alm.points i).latched && (s.received src).cond (pointOf i).1 (pointOf i).2 } := by
  change tget (handOn (clearLatches (s.received src))).alm.points i = _
  rw [handOn_alm, ← received_alm s src]
  exact tget_tab _ i

theorem effected_aco_point (s : State) (src : Station) (i : Fin 158) :
    tget (s.effected src .aco).alm.points i = if ((s.received src).pointNow i).reported
      then { tget s.alm.points i with acked := true } else tget s.alm.points i := by
  change tget (handOn (acknowledge (s.received src))).alm.points i = _
  rw [handOn_alm, ← received_alm s src]
  exact tget_tab _ i

/-- CLRL leaves of a receiver's point the latch alone that its condition holds (R172). -/
theorem executed_clrl_point {s : State} (running : s.phase = .running) (src : Station) {i : Fin 158}
    (receiver : (pointOf i).1.ofReceiver = true) :
    (s.cond (pointOf i).1 (pointOf i).2 = false → (tget (s.executed src .clrl).alm.points i).latched = false ∧
      (tget (s.executed src .clrl).alm.points i).reported = false ∧
      (tget (s.executed src .clrl).alm.points i).acked = false) ∧
    (s.cond (pointOf i).1 (pointOf i).2 = true → (tget s.alm.points i).latched = true →
      (tget (s.executed src .clrl).alm.points i).latched = true) := by
  have clrl : ActsOnAll 10 .clrl := .inl ⟨rfl, rfl⟩
  have found := (received_sameReceivers s src).cond receiver (pointOf i).2
  have stands := (clrl.effected_sameReceivers s src).cond receiver (pointOf i).2
  have point := effected_clrl_point s src i
  rw [executed_point (clrl.effected_running running src) receiver]
  rw [found] at point
  refine ⟨fun inactive => ?_, fun active latched => ?_⟩
  · simp [State.pointNow, point, stands, inactive]
  · simp [State.pointNow, point, active, latched]

/-- ACO acknowledges a receiver's point that is reported and whose severity has not risen (R170, R171). -/
theorem executed_aco_point {s : State} (running : s.phase = .running) (src : Station) {i : Fin 158}
    (receiver : (pointOf i).1.ofReceiver = true)
    (reported : (tget (s.executed src .aco).alm.points i).reported = true)
    (risen : (tget (s.executed src .aco).alm.points i).severity.rank ≤ (tget s.alm.points i).severity.rank) :
    (tget (s.executed src .aco).alm.points i).acked = true := by
  have aco : ActsOnAll 11 .aco := .inr ⟨rfl, rfl⟩
  have point := effected_aco_point s src i
  rw [executed_point (aco.effected_running running src) receiver] at reported risen ⊢
  have acknowledged : EventFrame (s.received src) (acknowledge (s.received src)) := (EventFrame.refl _).withAlm _
  have kept : SameReceivers (s.received src) (s.effected src .aco) :=
    (acknowledged.trans (handOn_frame _)).sameReceivers rfl rfl rfl
  have latched : (tget (s.effected src .aco).alm.points i).latched =
      (tget (s.received src).alm.points i).latched := by
    rw [point, received_alm]
    split <;> rfl
  have before := (kept.reported receiver latched).symm.trans reported
  rw [if_pos before] at point
  have acked : (tget (s.effected src .aco).alm.points i).acked = true := by rw [point]
  have severity : (tget (s.effected src .aco).alm.points i).severity = (tget s.alm.points i).severity := by rw [point]
  change (_ && ((s.effected src .aco).pointNow i).reported &&
    !decide (_ < ((s.effected src .aco).pointNow i).severity.rank)) = true
  rw [acked, reported, severity, decide_eq_false (Nat.not_lt.2 risen)]
  rfl

/-- Settles O55: the points as worked out from what the request leaves of latches and acknowledgements. -/
theorem clrlAndAcoActOnThePoints : Obligations.ClrlAndAcoActOnThePoints := by
  intro src s running rx free craft other all tgt target room
  obtain ⟨clrl, clrlFrame⟩ := ActsOnAll.arrives (.inl ⟨rfl, rfl⟩) running rx free craft other target room
  obtain ⟨aco, acoFrame⟩ := ActsOnAll.arrives (.inr ⟨rfl, rfl⟩) running rx free craft other target room
  refine ⟨⟨_, rfl, fun i range => ?_, clrlFrame⟩, ⟨_, rfl, fun i range => ?_, fun i unreported => ?_, acoFrame⟩⟩
  · rw [clrl]
    exact executed_clrl_point running src (ofReceiver_of_range i range)
  · rw [aco]
    exact executed_aco_point running src (ofReceiver_of_range i range)
  · rw [aco] at unreported ⊢
    by_contra acked
    have reported := (executed_workedOut s src .aco).pointsSound.acked i (by simpa using acked)
    exact absurd (unreported.symm.trans reported) (by decide)

end Sys2Proof.Machine
end

section
/-! SUPPORT. CONFIG-HALT (O5): what a command leaves there, and that an event's end finds the station halted still. -/

namespace Sys2Proof.Machine

/-! ## What is kept in CONFIG-HALT -/

/-- `t` stands as `s` does in all that CONFIG-HALT keeps (R199). The default proofs are those of a `t` that leaves the
register as it is. -/
structure HaltKept (s t : State) : Prop where
  phase : t.phase = s.phase := by exact rfl
  inHand : s.line.inHand = none → t.line.inHand = none := by exact id
  responses : t.line.responses = s.line.responses := by exact rfl
  dec : t.dec = s.dec := by exact rfl
  cap : t.cap = s.cap := by exact rfl
  restartPending : t.restartPending = s.restartPending := by exact rfl
  k : t.freq.k = s.freq.k := by exact rfl
  history : t.freq.history = s.freq.history := by exact rfl
  maj : s.alm.maj = true → t.alm.maj = true := by exact id

theorem HaltKept.refl (s : State) : HaltKept s s := {}

theorem HaltKept.trans {s t u : State} (h : HaltKept s t) (g : HaltKept t u) : HaltKept s u where
  phase := g.phase.trans h.phase
  inHand := g.inHand ∘ h.inHand
  responses := g.responses.trans h.responses
  dec := g.dec.trans h.dec
  cap := g.cap.trans h.cap
  restartPending := g.restartPending.trans h.restartPending
  k := g.k.trans h.k
  history := g.history.trans h.history
  maj := g.maj ∘ h.maj

/-- What stays within the frame of an event keeps it, out of readback and if MAJ stays pulled. -/
theorem EventFrame.haltKept {s t : State} (f : EventFrame s t) (phase : t.phase = s.phase)
    (maj : s.alm.maj = true → t.alm.maj = true) : HaltKept s t where
  phase := phase
  inHand := f.inHand_none
  responses := f.responses
  dec := f.dec
  cap := f.cap
  restartPending := f.restartPending
  k := f.k
  history := f.history
  maj := maj

theorem requestTrigger_haltKept (s : State) : HaltKept s (requestTrigger s) :=
  (requestTrigger_frame s).haltKept (requestTrigger_phase s) (by rw [requestTrigger_alm]; exact id)

theorem unheardEval_haltKept (s : State) : HaltKept s (unheardEval s) := by
  unfold unheardEval; split <;> exact {}

theorem protectionPart_haltKept (s t : State) : HaltKept s (protectionPart s t) :=
  (protectionPart_frame s t).haltKept rfl id

theorem actuationPart_haltKept (s t : State) : HaltKept s (actuationPart s t) :=
  (protectionPart_haltKept s t).trans {}

/-- In CONFIG-HALT the Alarm Unit pulls MAJ at every event's end (R173). -/
theorem HaltKept.conclude {s u : State} (h : HaltKept s u) (halt : s.phase = .halt) : HaltKept s (conclude s u) := by
  have frame := conclude_frame s u
  have halted : u.phase = .halt := h.phase.trans halt
  have phase : (Machine.conclude s u).phase = .halt :=
    (conclude_phase_of_ne s u (by rw [halted]; decide)).trans halted
  have stays : (handOn u).phase = .halt := (conclude_phase s u).symm.trans phase
  refine h.trans (frame.haltKept (phase.trans halted.symm) fun _ => ?_)
  rw [conclude_alm, if_neg (by simp [State.running, stays])]
  simp [Alarm.follow, State.halted, stays]

/-! ## Every command -/

section

variable {s : State} (halt : s.phase = .halt)
include halt

theorem unsettled_of_halt : s.settled = false := by simp [State.settled, halt]

/-- The receiver takes nothing from the line before the settling of an image (R49). -/
theorem hearing_of_halt : s.hearing = false := by simp [State.hearing, unsettled_of_halt halt]

/-- A request that arrives in CONFIG-HALT is not taken (R199). -/
theorem requestArrives_of_halt (src : Station) (tgt : BitVec 6) (payload : List Byte) :
    requestArrives s src tgt payload = lineQuiet s := by
  simp [requestArrives, hearing_of_halt halt]

/-- An event of the driver link, the Exerciser or a timer under its condition. -/
theorem everyNext_halt_event {u : State} {c : Prop} [Decidable c] (h : HaltKept s u) :
    EveryNext (HaltKept s) (if c then .next (conclude s u) else .next s) :=
  everyNext_ite (h.conclude halt) (.refl s)

theorem execClaimWindowExpiry_haltKept (w : WindowOwner) : EveryNext (HaltKept s) (execClaimWindowExpiry w s) := by
  unfold execClaimWindowExpiry
  split
  · exact everyNext_halt_event halt (protectionPart_haltKept s _)
  · split
    · exact everyNext_halt_event halt (protectionPart_haltKept s _)
    · simpa using HaltKept.refl s

theorem execDriverAnswer_haltKept (a : DriverAnswer) : EveryNext (HaltKept s) (execDriverAnswer a s) := by
  unfold execDriverAnswer
  split
  · exact everyNext_halt_event halt (actuationPart_haltKept s _)
  · simpa using HaltKept.refl s

theorem execAllowanceExpiry_haltKept : EveryNext (HaltKept s) (execAllowanceExpiry s) := by
  unfold execAllowanceExpiry
  split
  · exact everyNext_halt_event halt (actuationPart_haltKept s _)
  · simpa using HaltKept.refl s

theorem execRetryTimerExpiry_haltKept (p : Port) : EveryNext (HaltKept s) (execRetryTimerExpiry p s) := by
  unfold execRetryTimerExpiry
  split
  · split
    · exact everyNext_ite (HaltKept.conclude {} halt) ((protectionPart_haltKept s _).conclude halt)
    · simpa using HaltKept.refl s
  · simpa using HaltKept.refl s

theorem execStepTimerExpiry_haltKept : EveryNext (HaltKept s) (execStepTimerExpiry s) := by
  unfold execStepTimerExpiry
  dsimp only
  split
  · exact everyNext_ite ((HaltKept.trans {} (protectionPart_haltKept _ _)).conclude halt) {}
  · simpa using HaltKept.refl s

/-- No attempt starts before the settling of an image (R49). -/
theorem execAttemptStart_of_halt (elapsed : Nat) : execAttemptStart elapsed s = .next s := by
  unfold execAttemptStart
  split
  · rfl
  · simp [unsettled_of_halt halt]

/-- Every command but FULL_RESET keeps what CONFIG-HALT keeps: a row that works from the settling on, or on a frame in
hand, does nothing there, and the others end an event. -/
theorem exec_haltKept (hand : s.line.inHand = none) (c : Instr) (noReset : ∀ straps, c ≠ .fullReset straps) :
    EveryNext (HaltKept s) (exec c s) := by
  have unsettled := unsettled_of_halt halt
  have deaf := hearing_of_halt halt
  have nothing : EveryNext (HaltKept s) (.next s) := (everyNext_next _ s).2 (.refl s)
  have plain : ∀ {b : Prop} [Decidable b] {u : State}, HaltKept s u →
      EveryNext (HaltKept s) (if b then .next u else .next s) := fun h => everyNext_ite h (.refl s)
  have event : ∀ {b : Prop} [Decidable b] {u : State}, HaltKept s u →
      EveryNext (HaltKept s) (if b then .next (conclude s u) else .next s) := everyNext_halt_event halt
  cases row : requestOf c with
  | some r =>
    obtain ⟨src, tgt, payload⟩ := r
    rw [exec_of_requestOf s row, requestArrives_of_halt halt, everyNext_next]
    exact {}
  | none =>
    cases c with
    | fullReset straps => exact absurd rfl (noReset straps)
    | configReadEnd r temp => simpa [exec, execConfigReadEnd, halt] using nothing
    | configReadTimeout temp => simpa [exec, execConfigReadTimeout, halt] using nothing
    | slotCompletion => simpa [exec, execSlotCompletion, unsettled] using nothing
    | sampleAnswer a => exact plain {}
    | lineActivity => exact (everyNext_next _ _).2 {}
    | lineIdle => exact (everyNext_next _ _).2 {}
    | frameArrival bits =>
      rw [exec, execFrameArrival, if_neg (by simp [deaf])]
      exact (everyNext_next _ _).2 {}
    | attemptStart elapsed =>
      rw [exec, execAttemptStart_of_halt halt]
      exact nothing
    | collision straps => simpa [exec, execCollision, hand] using nothing
    | frameSent straps => simpa [exec, execFrameSent, hand] using nothing
    | spacingTimerExpiry => exact plain {}
    | routineTimerExpiry => exact plain {}
    | linefaultTimerExpiry => exact event {}
    | peerExpiry n => exact event (HaltKept.trans {} (unheardEval_haltKept _))
    | quarantineEnd n => exact event {}
    | silenceTimerExpiry => exact event (HaltKept.trans {} (requestTrigger_haltKept _))
    | unheardTimerExpiry => exact event (HaltKept.trans {} (requestTrigger_haltKept _))
    | holdoffExpiry p => exact event {}
    | claimWindowExpiry w => exact execClaimWindowExpiry_haltKept halt w
    | wtrExpiry p => exact event (protectionPart_haltKept s _)
    | driverAnswer a => exact execDriverAnswer_haltKept halt a
    | allowanceExpiry => exact execAllowanceExpiry_haltKept halt
    | recoveryTimerExpiry p sp => exact event {}
    | retryTimerExpiry p => exact execRetryTimerExpiry_haltKept halt p
    | stepTimerExpiry => exact execStepTimerExpiry_haltKept halt
    | edgeLoss x => exact event {}
    | edgeReturn x => simpa [exec, execEdgeReturn, State.takesEvents, unsettled] using nothing
    | gateCompletion x count => simpa [exec, execGateCompletion, unsettled] using nothing
    | gateOverrun x => exact event {}
    | secondsTick temp =>
      rw [exec, execSecondsTick, if_neg (by simp [unsettled])]
      exact (everyNext_next _ _).2 {}
    | holdoverLimitExpiry => exact event {}
    | listenEnd => simpa [exec, execListenEnd, halt] using nothing
    | gateStart x => exact plain {}
    | _ => cases row

end

/-- Settles O5: what every command but FULL_RESET keeps in CONFIG-HALT. -/
theorem haltLastsUntilFullReset : Obligations.HaltLastsUntilFullReset := by
  intro c s t halt hand noReset next
  have kept : HaltKept s t := exec_haltKept halt hand c noReset t next
  exact ⟨kept.phase.trans halt, kept.inHand hand, kept.responses, kept.dec, kept.cap, kept.restartPending, kept.k,
    kept.history, kept.maj⟩

end Sys2Proof.Machine
end

section
/-! SUPPORT. The step (O1, O2): the front of the queue, and the passing of 10 ms with nothing commanded. -/

namespace Sys2Proof.Machine

/-- Settles O1: by the step's definition. -/
theorem stepRunsTheFrontCommand : Obligations.StepRunsTheFrontCommand := fun _ _ _ => rfl

theorem step_of_empty {s : State} (empty : s.pending = []) : step s = .next (tick s) := by
  unfold step; rw [empty]

theorem tick_peer (s : State) (n : Station) : (tick s).peer n = (s.peer n).tick := tget_tab _ n

theorem tick_prec (s : State) (p : Port) : (tick s).prec p = (s.prec p).tick := tget_tab _ p

theorem tick_dport (s : State) (p : Port) : (tick s).dport p = (s.dport p).tick := tget_tab _ p

theorem tick_pair (s : State) (p : Port) (sp : Spare) :
    (tick s).pair p sp = { s.pair p sp with timer := tickTimer (s.pair p sp).timer } := by
  rw [State.pair, tick_dport]; exact tget_tab _ sp

/-- The marks of the peer view and what is no record of the Protection Engine stay. -/
theorem tick_marks (s : State) :
    (tick s).peers.isolated = s.peers.isolated ∧ (tick s).peers.unheard = s.peers.unheard ∧
      (tick s).prot.spareLock = s.prot.spareLock ∧ (tick s).prot.demands = s.prot.demands := by
  simp only [tick, and_self]

/-- Settles O2: the tables' records by the lemmas above, the registers by the tick's definition. -/
theorem idleStepLetsTimePass : Obligations.IdleStepLetsTimePass := by
  intro s empty
  obtain ⟨isolated, unheard, spareLock, demands⟩ := tick_marks s
  refine ⟨tick s, step_of_empty empty, rfl, rfl, rfl, rfl, rfl, rfl, rfl, rfl, rfl, rfl, rfl, rfl, rfl, rfl, rfl,
    isolated, unheard, rfl, rfl, tick_peer s, spareLock, demands, tick_prec s, fun p => ?_, tick_pair s, rfl, rfl⟩
  rw [tick_dport]
  rfl

end Sys2Proof.Machine
end

section
/-! SUPPORT. The resets (O3, O4, O23): where a start of each kind of number stands, the points that the reset values give,
and what a restart keeps. -/

namespace Sys2Proof.Machine

/-! ## The beginning of a start (R199, R200) -/

/-- A number of 0–29 begins the first read of the memory. -/
theorem beginStart_of_number (s : State) {straps : BitVec 5} (number : straps.toNat < 30) :
    (beginStart s straps).phase = .loading false ∧ (beginStart s straps).loadTimer = some 10 :=
  ⟨if_pos number, if_pos number⟩

/-- 30 and 31 are no station's numbers. -/
theorem beginStart_of_craft (s : State) {straps : BitVec 5} (craft : 30 ≤ straps.toNat) :
    (beginStart s straps).phase = .halt ∧ (beginStart s straps).loadTimer = none :=
  ⟨if_neg (Nat.not_lt.2 craft), if_neg (Nat.not_lt.2 craft)⟩

/-- The lines after it: MAJ alone, and in CONFIG-HALT alone (R173). -/
theorem beginStart_lines (s : State) (straps : BitVec 5) :
    (beginStart s straps).alm.maj = (beginStart s straps).halted ∧ (beginStart s straps).alm.crit = false ∧
      (beginStart s straps).alm.min = false := ⟨rfl, rfl, rfl⟩

theorem beginStart_quiet (s : State) (straps : BitVec 5) : (beginStart s straps).running = false := by
  by_cases number : straps.toNat < 30
  · rw [State.running, (beginStart_of_number s number).1]; rfl
  · rw [State.running, (beginStart_of_craft s (Nat.not_lt.1 number)).1]; rfl

theorem beginStart_tim (s : State) (straps : BitVec 5) : (beginStart s straps).tim.selection = s.tim.selection ∧
    (beginStart s straps).tim.force = s.tim.force := by
  change (announceTiming _).tim.selection = _ ∧ (announceTiming _).tim.force = _
  rw [announceTiming_tim]
  exact ⟨rfl, rfl⟩

/-! ## The full reset (R206) -/

/-- Before the start-up evaluation the Alarm Unit follows what its points are worked out from (R177). -/
theorem follow_congr {s t : State} (sources : PointSources s t) (alm : t.alm = s.alm) (quiet : s.running = false) :
    Alarm.follow t = Alarm.follow s := by
  have logOvr : t.alm.logOvr = s.alm.logOvr := by rw [alm]
  have points : t.pointsNow = s.pointsNow := by
    have quiet' : t.running = false := sources.running.trans quiet
    rw [State.pointsNow, State.pointsNow, quiet, quiet']
    refine congrArg tab (funext fun i => ?_)
    simp only [State.pointQuiet, sources.cond (fun _ => logOvr), sources.masked, sources.suppressed,
      sources.severityOf, sources.halted]
  rw [Alarm.follow, Alarm.follow, points, alm, sources.halted]

/-- The reset values give the points of R177. -/
theorem reset_pointQuiet : ∀ i, State.reset.pointQuiet i = Point.reset i := by decide +kernel

theorem follow_reset : Alarm.follow State.reset = Alarm.reset :=
  congrArg (fun points => { Alarm.reset with points := tab points }) (funext reset_pointQuiet)

theorem fullReset_of_number (s : State) {straps : BitVec 5} (number : straps.toNat < 30) :
    fullReset s straps = { State.reset with
      pending := s.pending
      straps := straps
      tim := { Timing.reset with trace := [BitVec.ofNat 8 straps.toNat] } } := by
  have tim : (announceTiming { State.reset with pending := s.pending, straps := straps }).tim =
      { Timing.reset with trace := [BitVec.ofNat 8 straps.toNat] } := by
    rw [announceTiming_tim]; rfl
  have sources (trace : List Byte) : PointSources State.reset
      { State.reset with pending := s.pending, straps := straps, tim := { Timing.reset with trace := trace } } := {}
  unfold fullReset beginStart
  rw [if_pos number, if_pos number]
  change { State.reset with
    pending := s.pending
    straps := straps
    tim := (announceTiming { State.reset with pending := s.pending, straps := straps }).tim
    alm := Alarm.follow { State.reset with
      pending := s.pending
      straps := straps
      tim := (announceTiming { State.reset with pending := s.pending, straps := straps }).tim } } = _
  rw [tim, follow_congr (sources _) rfl rfl, follow_reset]
  rfl

/-- Settles O3: the announced values and the points are worked out from the reset values. -/
theorem fullResetGivesTheResetState : Obligations.FullResetGivesTheResetState := fun _ s number =>
  congrArg Host.Outcome.next (fullReset_of_number s number)

/-- The number of CFGDEF's point (R163). -/
theorem pointOf_cfgdef : pointOf 140 = (.cfgdef, .station) := by decide

/-- In CONFIG-HALT the CFGDEF point is held active and reported (R173). -/
theorem pointQuiet_cfgdef {s : State} (halt : s.phase = .halt) : let x := s.pointQuiet 140
    x.active = true ∧ x.reported = true ∧ x.acked = false ∧ x.severity = .major := by
  have halted : s.halted = true := by simp [State.halted, halt]
  simp [State.pointQuiet, pointOf_cfgdef, State.cond, State.severityOf, Kind.base, halted]

theorem beginStart_cfgdef (s : State) {straps : BitVec 5} (craft : 30 ≤ straps.toNat) :
    let x := tget (beginStart s straps).alm.points 140
    x.active = true ∧ x.reported = true ∧ x.acked = false ∧ x.severity = .major := by
  set v : State := { beginStart s straps with alm := s.alm }
  have point : tget (beginStart s straps).alm.points 140 = v.pointQuiet 140 :=
    follow_point (s := v) (beginStart_quiet s straps) 140
  rw [point]
  exact pointQuiet_cfgdef (beginStart_of_craft s craft).1

/-- Settles O4: the lines and the point of CFGDEF follow from the halted state. -/
theorem craftNumberHaltsTheStation : Obligations.CraftNumberHaltsTheStation := by
  intro straps s craft
  set u : State := { State.reset with pending := s.pending }
  obtain ⟨halt, noRead⟩ := beginStart_of_craft u craft
  obtain ⟨maj, crit, min⟩ := beginStart_lines u straps
  have halted : (beginStart u straps).halted = true := by simp [State.halted, halt]
  have line : (beginStart u straps).line = BayLine.reset := rfl
  have held : (beginStart u straps).outputHeld = true := by rw [State.outputHeld, halted, Bool.or_true]
  exact ⟨beginStart u straps, rfl, halt, noRead, by rw [line]; rfl, by rw [line]; rfl, maj.trans halted, crit, min, held,
    beginStart_cfgdef u craft⟩

/-! ## The restart (R198, R206) -/

theorem frameSent_restarts {s : State} {f : Frame} (straps : BitVec 5) (pending : s.restartPending = true)
    (sending : s.line.sending = true) (hand : s.line.inHand = some ⟨.response, f⟩)
    (response : s.line.responses.head?.map (·.payload) = some [17, 0]) :
    exec (.frameSent straps) s = .next (restart { s with line := leaveHand s.line .response } straps) := by
  change execFrameSent straps s = _
  simp [execFrameSent, hand, sending, State.restartsNow, pending, response]

theorem restarted_decv (s : State) (straps : BitVec 5) (r : Recv) :
    (restart s straps).decv r = { RecvDec.reset with expect := (s.decv r).expect } := tget_tab _ r

/-- The timing state after a restart of four or more kept entries on a number (R162). -/
theorem Frequency.restarted_of_kept {q : Frequency} {straps : BitVec 5} (kept : 4 ≤ q.history.length)
    (number : straps.toNat < 30) : let r := q.restarted straps
    r.state = .holdover ∧ r.h = some (meanK q.history) ∧ r.hoTimer = some 0 := by
  simp [Frequency.restarted, kept, number]

theorem Frequency.restarted_of_few {q : Frequency} {straps : BitVec 5}
    (h : q.history.length < 4 ∨ 30 ≤ straps.toNat) : let r := q.restarted straps
    r.state = .freerun ∧ r.h = none ∧ r.hoTimer = none := by
  have lacks : (decide (4 ≤ q.history.length) && decide (straps.toNat < 30)) = false := by
    rw [Bool.and_eq_false_iff, decide_eq_false_iff_not, decide_eq_false_iff_not]
    omega
  simp [Frequency.restarted, lacks]

/-- A restart is the beginning of a start too. -/
theorem restart_begins (s : State) (straps : BitVec 5) :
    ∃ u, restart s straps = beginStart u straps ∧ u.tim = Timing.reset := ⟨_, rfl, rfl⟩

/-- Settles O23: a restart begins a start on what it keeps. -/
theorem restartKeepsWhatItKeeps : Obligations.RestartKeepsWhatItKeeps := by
  intro straps f s pending sending hand response
  set v : State := { s with line := leaveHand s.line .response }
  obtain ⟨u, begins, tim⟩ := restart_begins v straps
  obtain ⟨selection, force⟩ := beginStart_tim u straps
  obtain ⟨maj, -, -⟩ := beginStart_lines u straps
  rw [tim] at selection force
  rw [← begins] at selection force maj
  refine ⟨restart v straps, frameSent_restarts straps pending sending hand response, rfl, fun number => ?_,
    fun craft => ?_, fun r => ?_, rfl, rfl, rfl, rfl, rfl, rfl, rfl, rfl, rfl, Frequency.restarted_of_kept,
    Frequency.restarted_of_few, rfl, rfl, rfl, rfl, rfl, rfl, rfl, rfl, rfl, selection, force⟩
  · obtain ⟨loading, timer⟩ := beginStart_of_number u number
    rw [← begins] at loading timer
    exact ⟨loading, timer, maj.trans (by rw [State.halted, loading]; rfl)⟩
  · obtain ⟨halt, noRead⟩ := beginStart_of_craft u craft
    rw [← begins] at halt noRead
    exact ⟨halt, noRead, maj.trans (by rw [State.halted, halt]; rfl)⟩
  · rw [restarted_decv]
    exact ⟨rfl, rfl⟩

end Sys2Proof.Machine
end

section
/-! SUPPORT. What the handing on of changes leaves alone (O50, O60): commands, selections, pairs, readback marks, the
candidates' lockouts and a sweep without a step; and the latches and acknowledgements of the points at an event's end. -/

namespace Sys2Proof.Machine

/-! ## The relation -/

/-- No command, lockout, pair, readback mark or lockout of a candidate has moved from `s` to `t`, no selection but at the
end of readback (R85), and with no step in flight the Exerciser is as it was. The default proofs are those of a `t` that
leaves the registers as they are. -/
structure Unasked (s t : State) : Prop where
  phase : t.phase = s.phase ∨ s.phase = .readback ∧ t.phase = .listening := by exact .inl rfl
  command : ∀ p, (t.prec p).command = (s.prec p).command := by exact fun _ => rfl
  lockout : ∀ p, (t.prec p).lockout = (s.prec p).lockout := by exact fun _ => rfl
  selection : s.phase ≠ .readback → ∀ p, (t.prec p).selection = (s.prec p).selection := by exact fun _ _ => rfl
  pairs : ∀ p, (t.dport p).pairs = (s.dport p).pairs := by exact fun _ => rfl
  mark : ∀ p, (t.dport p).mark = (s.dport p).mark := by exact fun _ => rfl
  lockedOut : ∀ c, (t.cand c).state = .lockedout ↔ (s.cand c).state = .lockedout := by exact fun _ => Iff.rfl
  sweep : SweepKept s t := by exact fun _ => rfl

theorem Unasked.refl (s : State) : Unasked s s := {}

theorem Unasked.trans {s t u : State} (h : Unasked s t) (g : Unasked t u) : Unasked s u where
  phase := by
    rcases h.phase with same | ⟨readback, listens⟩
    · rw [← same]; exact g.phase
    · rcases g.phase with same | ⟨again, -⟩
      · exact .inr ⟨readback, same.trans listens⟩
      · exact absurd (listens.symm.trans again) (by decide)
  command p := (g.command p).trans (h.command p)
  lockout p := (g.lockout p).trans (h.lockout p)
  selection ne p := by
    have same : t.phase = s.phase := h.phase.resolve_right fun x => ne x.1
    exact (g.selection (same ▸ ne) p).trans (h.selection ne p)
  pairs p := (g.pairs p).trans (h.pairs p)
  mark p := (g.mark p).trans (h.mark p)
  lockedOut c := (g.lockedOut c).trans (h.lockedOut c)
  sweep := sweepKept_closed.trans h.sweep g.sweep

theorem Unasked.pair {s t : State} (h : Unasked s t) (p : Port) (sp : Spare) : t.pair p sp = s.pair p sp := by
  rw [State.pair, h.pairs, State.pair]

/-- What leaves protection, driver, Exerciser and candidates as they are. -/
theorem unasked_of_blocks {s t : State} (phase : t.phase = s.phase) (prot : t.prot = s.prot) (drv : t.drv = s.drv)
    (exr : t.exr = s.exr) (tim : t.tim = s.tim) : Unasked s t where
  phase := .inl phase
  command p := by rw [State.prec, prot, State.prec]
  lockout p := by rw [State.prec, prot, State.prec]
  selection _ p := by rw [State.prec, prot, State.prec]
  pairs p := by rw [State.dport, drv, State.dport]
  mark p := by rw [State.dport, drv, State.dport]
  lockedOut c := by rw [State.cand, tim, State.cand]
  sweep _ := exr

theorem requestTrigger_unasked (s : State) : Unasked s (requestTrigger s) :=
  unasked_of_blocks (requestTrigger_phase s) (requestTrigger_prot s) (requestTrigger_drv s) (requestTrigger_exr s)
    (requestTrigger_tim s)

theorem triggerIf_unasked (b : Bool) (s : State) : Unasked s (triggerIf b s) :=
  unasked_of_blocks (triggerIf_phase b s) (triggerIf_prot b s) (triggerIf_drv b s) (triggerIf_exr b s)
    (triggerIf_tim b s)

/-! ## The handing on -/

theorem protect_unasked (s : State) : Unasked s (protect s) where
  phase := .inl (protect_phase s)
  command p := (protect_prec s p).2.2.1
  lockout p := (protect_prec s p).2.2.2
  selection _ p := (protect_prec s p).1
  pairs p := (protect_dport s p).1
  mark p := (protect_dport s p).2.2.2.1
  lockedOut c := by rw [State.cand, protect_tim, State.cand]
  sweep := protect_exr_of_idle

theorem arbitrate_unasked (s : State) : Unasked s (arbitrate s) where
  phase := .inl (arbitrate_phase s)
  command p := by rw [State.prec, arbitrate_prot, State.prec]
  lockout p := by rw [State.prec, arbitrate_prot, State.prec]
  selection _ p := by rw [State.prec, arbitrate_prot, State.prec]
  pairs p := by rw [arbitrate_dport]
  mark p := by rw [arbitrate_dport]
  lockedOut c := by rw [State.cand, arbitrate_tim, State.cand]
  sweep _ := arbitrate_exr s

theorem readbackCheck_of_ne {s : State} (h : s.phase ≠ .readback) : readbackCheck s = s := if_neg fun x => h x.1

/-- What no write of a candidate, of a record taking up its position, or of the phase changes is as before readback's
end. -/
theorem readbackCheck_field {β : Type} (g : State → β) (cand : ∀ s c r, g (s.setCand c r) = g s)
    (takes : ∀ s p sp, g (updRec s p fun r =>
      { r with state := .switched, selection := some sp, claim := some ⟨sp, .undecided, true⟩ }) = g s)
    (listens : ∀ s timer, g { s with phase := .listening, listenTimer := timer } = g s) (s : State) :
    g (readbackCheck s) = g s := by
  have hit : ∀ u c, g (hitCand u c) = g u := fun u c => by
    unfold hitCand
    split
    · rfl
    · exact cand u c _
  have placed : ∀ u p, g (takePosition u p) = g u := fun u p => by
    unfold takePosition
    split
    · refine (foldl_field g (fun v i => ?_) (idx 4) _).trans (takes u p _)
      split
      · exact hit v _
      · rfl
    · rfl
  unfold readbackCheck
  split
  · exact (listens _ _).trans (foldl_field g placed (idx 16) s)
  · rfl

theorem readbackCheck_unasked (s : State) : Unasked s (readbackCheck s) where
  phase := (readbackCheck_frame s).phase
  command p := readbackCheck_field (fun u => (u.prec p).command) (fun _ _ _ => rfl)
    (fun u q sp => by rw [updRec_prec]; split <;> simp [*]) (fun _ _ => rfl) s
  lockout p := readbackCheck_field (fun u => (u.prec p).lockout) (fun _ _ _ => rfl)
    (fun u q sp => by rw [updRec_prec]; split <;> simp [*]) (fun _ _ => rfl) s
  selection ne p := by rw [readbackCheck_of_ne ne]
  pairs p := readbackCheck_field (fun u => (u.dport p).pairs) (fun _ _ _ => rfl) (fun _ _ _ => rfl) (fun _ _ => rfl) s
  mark p := readbackCheck_field (fun u => (u.dport p).mark) (fun _ _ _ => rfl) (fun _ _ _ => rfl) (fun _ _ => rfl) s
  lockedOut c := by
    unfold readbackCheck
    split
    · have kept := (foldl_hitsOnly takePosition_hitsOnly (idx 16) s).states c
      unfold beginListen
      generalize (idx 16).foldl takePosition s = u at kept ⊢
      exact iff_of_eq (congrArg (· = _) kept)
    · rfl
  sweep _ := readbackCheck_field State.exr (fun _ _ _ => rfl) (fun _ _ _ => rfl) (fun _ _ => rfl) s

theorem timing_unasked (s : State) : Unasked s (timing s) where
  phase := .inl (timing_phase s)
  command p := by rw [State.prec, timing_prot, State.prec]
  lockout p := by rw [State.prec, timing_prot, State.prec]
  selection _ p := by rw [State.prec, timing_prot, State.prec]
  pairs p := by rw [State.dport, timing_drv, State.dport]
  mark p := by rw [State.dport, timing_drv, State.dport]
  lockedOut c := by
    by_cases settled : s.settled = true
    · rw [timing_cand settled, judgedCand_lockedout]
    · rw [timing_of_unsettled (by simpa using settled)]
  sweep _ := timing_exr s

theorem handOn_unasked (s : State) : Unasked s (handOn s) :=
  (protect_unasked s).trans ((arbitrate_unasked _).trans ((readbackCheck_unasked _).trans (timing_unasked _)))

theorem conclude_unasked (s0 s : State) : Unasked s (conclude s0 s) :=
  (handOn_unasked s).trans (unasked_of_blocks (conclude_phase s0 s) (conclude_prot s0 s) (conclude_drv s0 s)
    (conclude_exr s0 s) (conclude_tim s0 s))

theorem refresh_unasked (s : State) (n : Station) : Unasked s (refresh s n) :=
  Unasked.trans {} (triggerIf_unasked _ _)

theorem received_unasked (s : State) (src : Station) : Unasked s (s.received src) :=
  Unasked.trans {} ((refresh_unasked (lineQuiet s) src).trans (handOn_unasked _))

/-! ## The points at an event's end (R166, R170) -/

/-- A latch stands over an event, and an acknowledgement is none of an event's own. -/
theorem pointNow_kept (s : State) (i : Fin 158) :
    ((tget s.alm.points i).latched = true → (s.pointNow i).latched = true) ∧
      ((s.pointNow i).acked = true → (tget s.alm.points i).acked = true) := by
  refine ⟨fun latched => ?_, fun acked => ?_⟩
  · simp [State.pointNow, latched]
  · simp only [State.pointNow, Bool.and_eq_true] at acked
    exact acked.1.1

theorem settle_kept {s : State} (running : s.running = true) (old : Vector Point 158) (i : Fin 158) :
    ((tget s.alm.points i).latched = true → (tget (Alarm.settle s old).points i).latched = true) ∧
      ((tget (Alarm.settle s old).points i).acked = true → (tget s.alm.points i).acked = true) := by
  obtain ⟨latched, acked⟩ := pointNow_kept s i
  by_cases own : i = logovrPoint
  · subst own
    rw [settle_logovrPoint running]
    split
    · have once : tget (s.recorded old).alm.points logovrPoint = s.pointNow logovrPoint := by
        rw [State.recorded, State.pointsNow, if_pos running, tget_tab]
      obtain ⟨latched', acked'⟩ := pointNow_kept (s.recorded old) logovrPoint
      rw [once] at latched' acked'
      exact ⟨latched' ∘ latched, acked ∘ acked'⟩
    · exact ⟨latched, acked⟩
  · rw [settle_point running old own]
    exact ⟨latched, acked⟩

/-- Nothing is asked of the station by an event whose own part leaves the Alarm Unit alone. -/
theorem Unasked.conclude {s u : State} (h : Unasked s u) (alm : u.alm = s.alm) : NothingAsked s (conclude s u) := by
  have kept := h.trans (conclude_unasked s u)
  have before : (handOn u).alm = s.alm := (handOn_alm u).trans alm
  have ended := conclude_alm s u
  refine ⟨fun p => ⟨kept.command p, kept.lockout p⟩, kept.selection, kept.pair, kept.lockedOut, ?_, fun i => ?_,
    fun running i => ?_, kept.sweep⟩
  · rw [ended, ← before]
    split
    · obtain ⟨new, log, -⟩ := settle_log (handOn u) s.alm.points
      rw [before]
      exact ⟨new, by rw [log, before]⟩
    · exact ⟨[], (List.append_nil _).symm⟩
  · rw [ended, ← before]
    split
    · next running => rw [before]; exact before ▸ (settle_kept running s.alm.points i).2
    · next quiet =>
      rw [follow_point (by simpa using quiet)]
      exact nofun
  · have phase : u.phase = .running := (h.phase.resolve_right fun x => absurd (running.symm.trans x.1) (by decide)).trans
      running
    have running' : (handOn u).running = true :=
      (running_iff _).2 ((conclude_phase s u).symm.trans (conclude_stays_running s u phase))
    rw [ended, if_pos running', ← before]
    rw [before]
    exact before ▸ (settle_kept running' s.alm.points i).1

/-- A response asks for nothing (R48). -/
theorem NothingAsked.respond {s t : State} (h : NothingAsked s t) (src : Station) (code : Byte) (r : Result)
    (data : List Byte) : NothingAsked s (respond t src code r data) := { h with }

end Sys2Proof.Machine
end

section
/-! SUPPORT. The requests that write one register (O54, O57, O60): a port's maintenance mask, a spare's lockout, a pair. -/

namespace Sys2Proof.Machine

/-! ## PAIR CLEAR (R197) -/

theorem parse_pairClear (p : Port) (sp : Spare) : parse [16, byte p.val, byte sp.val] = some (.pairClear p sp) := by
  change (finOf 16 (byte p.val)).bind (fun p => (finOf 4 (byte sp.val)).map (Request.pairClear p)) = _
  rw [finOf_byte (by decide) p, finOf_byte (by decide) sp]
  rfl

theorem forgivePair_frame (s : State) (p : Port) (sp : Spare) : EventFrame s (forgivePair s p sp) :=
  (setDport_frame s p _).trans (setDport_frame _ p _)

theorem setPair_pair (s : State) (p q : Port) (sp y : Spare) (x : Pair) :
    (s.setPair p sp x).pair q y = if q = p ∧ y = sp then x else s.pair q y := by
  unfold State.pair State.setPair
  rw [setDport_dport]
  by_cases port : p = q
  · subst port
    by_cases spare : sp = y
    · subst spare; simp
    · simp [tget_tset_ne _ spare, Ne.symm spare]
  · simp [port, Ne.symm port]

theorem clearMark_pair (s : State) (p q : Port) (y : Spare) : (clearMark s p).pair q y = s.pair q y := by
  unfold State.pair clearMark
  rw [setDport_dport]
  split
  · next same => rw [same]
  · rfl

theorem clearMark_mark (s : State) (p q : Port) :
    ((clearMark s p).dport q).mark = if q = p then false else (s.dport q).mark := by
  unfold clearMark
  rw [setDport_dport]
  by_cases same : p = q
  · simp [same]
  · simp [same, Ne.symm same]

theorem setPair_mark (s : State) (p q : Port) (sp : Spare) (x : Pair) :
    ((s.setPair p sp x).dport q).mark = (s.dport q).mark := by
  unfold State.setPair
  rw [setDport_dport]
  split
  · next same => rw [same]
  · rfl

section

variable {s : State} {src : Station} {tgt : BitVec 6} (h : Takes s src tgt)
include h

/-- What a request leaves of the registers that its handing on keeps is what its effect made of them. -/
theorem Takes.done_unasked {code : Byte} {params : List Byte} {r : Request} (parsed : parse (code :: params) = some r)
    (accepted : (s.received src).refusal r = none) :
    Unasked (requestEffect (s.received src) r) (requestArrives s src tgt (code :: params)) := by
  rw [h.done parsed accepted]
  exact { conclude_unasked s (requestEffect (s.received src) r) with }

theorem Takes.pairClear_pair (p q : Port) (sp x : Spare) :
    (requestArrives s src tgt [16, byte p.val, byte sp.val]).pair q x =
      if q = p ∧ x = sp then Pair.reset else s.pair q x := by
  rw [(h.done_unasked (parse_pairClear p sp) rfl).pair]
  change (forgivePair (s.received src) p sp).pair q x = _
  rw [forgivePair, clearMark_pair, setPair_pair, (received_unasked s src).pair]

theorem Takes.pairClear_mark (p q : Port) (sp : Spare) :
    ((requestArrives s src tgt [16, byte p.val, byte sp.val]).dport q).mark =
      if q = p then false else (s.dport q).mark := by
  rw [(h.done_unasked (parse_pairClear p sp) rfl).mark]
  change ((forgivePair (s.received src) p sp).dport q).mark = _
  rw [forgivePair, clearMark_mark, setPair_mark, (received_unasked s src).mark]

end

/-- Settles O60: the effect is one pair and one mark, and the handing on writes neither. -/
theorem pairClearForgives : Obligations.PairClearForgives := fun _ _ p sp s h =>
  ⟨_, exec_of_requestOf s rfl, h.done_answered (parse_pairClear p sp) rfl (forgivePair_frame _ p sp),
    by rw [h.pairClear_pair]; exact if_pos ⟨rfl, rfl⟩,
    by rw [h.pairClear_mark]; exact if_pos rfl,
    fun q x other => by rw [h.pairClear_pair]; exact if_neg fun same => other.elim (· same.1) (· same.2),
    fun q other => by rw [h.pairClear_mark]; exact if_neg other⟩

/-! ## MASK (R190) -/

theorem parse_mask (p : Port) (on : Bool) : parse [9, byte p.val, byte on.toNat] = some (.mask p on) := by
  change (finOf 16 (byte p.val)).bind (fun p => (boolOf (byte on.toNat)).map (Request.mask p)) = _
  rw [finOf_byte (by decide) p, boolOf_byte]
  rfl

theorem requestOf_mask (src : Station) (tgt : BitVec 6) (p : Byte) (on : Bool) :
    requestOf (if on then .maskOn src tgt p else .maskOff src tgt p) = some (src, tgt, [9, p, byte on.toNat]) := by
  cases on <;> rfl

section

variable {s : State} {src : Station} {tgt : BitVec 6} (h : Takes s src tgt)
include h

theorem Takes.mask_answered (p : Port) (on : Bool) :
    Answered s { s with dec := { s.dec with maint := tset s.dec.maint p on } }
      (requestArrives s src tgt [9, byte p.val, byte on.toNat]) src [9, 0] := by
  have effect := (received_frame s src).withDec { s.dec with maint := tset s.dec.maint p on }
  have masks : requestEffect (s.received src) (.mask p on) =
      { s.received src with dec := { s.dec with maint := tset s.dec.maint p on } } := by
    change setMaint (s.received src) p on = _
    rw [setMaint, received_dec]
  rw [← masks] at effect
  rw [h.done (parse_mask p on) rfl]
  exact answered_done (r := .mask p on) _ effect

theorem Takes.done_pointsSound {code : Byte} {params : List Byte} {r : Request}
    (parsed : parse (code :: params) = some r) (accepted : (s.received src).refusal r = none) :
    PointsSound (requestArrives s src tgt (code :: params)) := by
  rw [h.done parsed accepted]
  exact ((executed_workedOut s src r).respond src code .done _).pointsSound

end

/-- SF in a state whose maintenance mask of the port has been written (R12, R28). -/
theorem Answered.sf_of_mask {s t : State} {src : Station} {payload : List Byte} {p : Port} {on : Bool}
    (a : Answered s { s with dec := { s.dec with maint := tset s.dec.maint p on } } t src payload) :
    t.sf p = (s.used p && ((s.recv (portRecv p)).los.active || (s.recv (portRecv p)).low.active ||
      s.timOf (portRecv p) && s.config.timConseq && !on)) := by
  have mask : tget (tset s.dec.maint p on) p = on := tget_tset_same _ p on
  rw [EventFrame.sf a p]
  change (s.used p && ((s.recv (portRecv p)).los.active || (s.recv (portRecv p)).low.active ||
    (s.timOf (portRecv p) && s.config.timConseq && !tget (tset s.dec.maint p on) p))) = _
  rw [mask]

/-- Settles O54: the request writes one mask, from which SF and the port's points are worked out. -/
theorem maskActsOnTimAndOnThePoints : Obligations.MaskActsOnTimAndOnThePoints := by
  intro src tgt p s h on
  have answered := h.mask_answered p on
  have frame : EventFrame _ _ := answered
  refine ⟨_, exec_of_requestOf s (requestOf_mask src tgt _ on), answered, answered.sf_of_mask, fun k => ?_⟩
  rw [(h.done_pointsSound (parse_mask p on) rfl).portMasked k p, frame.config, frame.dec, frame.used]
  exact congrArg (fun mask => _ || mask || _) (tget_tset_same s.dec.maint p on)

/-! ## SLK (R194) -/

theorem parse_slk (sp : Spare) (on : Bool) : parse [13, byte sp.val, byte on.toNat] = some (.slk sp on) := by
  change (finOf 4 (byte sp.val)).bind (fun sp => (boolOf (byte on.toNat)).map (Request.slk sp)) = _
  rw [finOf_byte (by decide) sp, boolOf_byte]
  rfl

theorem requestOf_slk (src : Station) (tgt : BitVec 6) (sp : Byte) (on : Bool) :
    requestOf (if on then .slkOn src tgt sp else .slkOff src tgt sp) = some (src, tgt, [13, sp, byte on.toNat]) := by
  cases on <;> rfl

/-- The LOCKOUT claim of a spare (R97). -/
def State.lockClaim (s : State) : ViewEntry := ⟨s.own.val, 31, .lockout, true, .own⟩

theorem port_of_mem_recordEntries {s : State} {sp : Spare} {p : Port} {e : ViewEntry} (mem : e ∈ s.recordEntries sp p) :
    e.port = p.val ∧ ∃ k, (s.prec p).claim = some k ∧ e.cls = k.cls := by
  unfold State.recordEntries at mem
  split at mem
  · exact absurd mem List.not_mem_nil
  · next k claim =>
    rw [List.mem_append] at mem
    rcases mem with mem | mem
    · split at mem
      · rw [List.mem_singleton.1 mem]; exact ⟨rfl, k, claim, rfl⟩
      · exact absurd mem List.not_mem_nil
    · split at mem
      · split at mem
        · rw [List.mem_singleton.1 mem]; exact ⟨rfl, k, claim, rfl⟩
        · exact absurd mem List.not_mem_nil
      · exact absurd mem List.not_mem_nil

theorem cls_of_mem_exerciseEntry {s : State} {sp : Spare} {e : ViewEntry} (mem : e ∈ s.exerciseEntry sp) :
    e.cls = .exercise := by
  unfold State.exerciseEntry at mem
  split at mem
  · split at mem
    · split at mem
      · rw [List.mem_singleton.1 mem]; rfl
      · exact absurd mem List.not_mem_nil
    · exact absurd mem List.not_mem_nil
  · exact absurd mem List.not_mem_nil

theorem mem_lockEntry {s : State} {sp : Spare} {e : ViewEntry} :
    e ∈ s.lockEntry sp ↔ tget s.prot.spareLock sp = true ∧ e = s.lockClaim := by
  unfold State.lockEntry
  split
  · next locked => simp [locked, State.lockClaim, State.ownEntry]
  · next free => simp [free]

theorem mem_ownClaims {s : State} {sp : Spare} {e : ViewEntry} :
    e ∈ s.ownClaims sp ↔ (∃ p, e ∈ s.recordEntries sp p) ∨ e ∈ s.exerciseEntry sp ∨ e ∈ s.lockEntry sp := by
  simp [State.ownClaims, idx]

/-- The LOCKOUT claim is the spare's membership of the lockout set: no record's claim is of port 31. -/
theorem lockClaim_mem_ownClaims (s : State) (sp : Spare) :
    s.lockClaim ∈ s.ownClaims sp ↔ tget s.prot.spareLock sp = true := by
  rw [mem_ownClaims, mem_lockEntry]
  refine ⟨fun mem => ?_, fun locked => .inr (.inr ⟨locked, rfl⟩)⟩
  rcases mem with ⟨p, mem⟩ | mem | mem
  · have port : 31 = p.val := (port_of_mem_recordEntries mem).1
    omega
  · have cls : Class.lockout = .exercise := cls_of_mem_exerciseEntry mem
    exact absurd cls (by decide)
  · exact mem.1

/-- The claim that outranks every other own claim is the one announced (R87). -/
theorem announcedOn_of_highest {s : State} {sp : Spare} {e : ViewEntry} (mem : e ∈ s.ownClaims sp)
    (highest : ∀ x ∈ s.ownClaims sp, x ≠ e → e.outranks x = true) : s.announcedOn sp = some e := by
  have perm := foldl_insertRanked_perm (s.ownClaims sp) []
  have sorted := foldl_insertRanked_pairwise (s.ownClaims sp) (acc := []) .nil
  rw [List.append_nil] at perm
  unfold State.announcedOn
  cases ranked : (s.ownClaims sp).foldl (fun acc e => insertRanked e acc) [] with
  | nil =>
    rw [ranked] at perm
    exact absurd (perm.mem_iff.2 mem) List.not_mem_nil
  | cons x xs =>
    rw [ranked] at perm sorted
    by_contra other
    have differs : x ≠ e := fun same => other (congrArg some same)
    have later : e ∈ xs := (List.mem_cons.1 (perm.mem_iff.2 mem)).resolve_left (Ne.symm differs)
    have above := outranks_iff.1 (highest x (perm.mem_iff.1 List.mem_cons_self) differs)
    exact absurd ((List.pairwise_cons.1 sorted).1 e later) above.not_ge

/-- LOCKOUT is the highest class (R88). -/
theorem lockout_outranks {a b : ViewEntry} (lockout : a.cls = .lockout) (other : b.cls ≠ .lockout) :
    a.outranks b = true := by
  have below : b.cls.code < Class.lockout.code := by
    cases cls : b.cls with
    | lockout => exact absurd cls other
    | _ => decide
  simp [ViewEntry.outranks, lockout, below]

theorem announcedOn_of_locked {s : State} {sp : Spare} (locked : tget s.prot.spareLock sp = true)
    (records : ∀ p k, (s.prec p).claim = some k → k.cls ≠ .lockout) : s.announcedOn sp = some s.lockClaim := by
  refine announcedOn_of_highest ((lockClaim_mem_ownClaims s sp).2 locked) fun x mem other => lockout_outranks rfl ?_
  rcases mem_ownClaims.1 mem with ⟨p, mem⟩ | mem | mem
  · obtain ⟨-, k, claim, cls⟩ := port_of_mem_recordEntries mem
    exact cls ▸ records p k claim
  · rw [cls_of_mem_exerciseEntry mem]; decide
  · exact absurd (mem_lockEntry.1 mem).2 other

theorem EventFrame.withSpareLock {s t : State} (f : EventFrame s t) (l : Vector Bool 4) :
    EventFrame { s with prot := { s.prot with spareLock := l } } { t with prot := { t.prot with spareLock := l } } :=
  { f with spareLock := rfl }

section

variable {s : State} {src : Station} {tgt : BitVec 6} (h : Takes s src tgt)
include h

theorem Takes.slk_answered (sp : Spare) (on : Bool) :
    Answered s { s with prot := { s.prot with spareLock := tset s.prot.spareLock sp on } }
      (requestArrives s src tgt [13, byte sp.val, byte on.toNat]) src [13, 0] := by
  have kept : (s.received src).prot.spareLock = s.prot.spareLock := (received_frame s src).spareLock
  have effect := (received_frame s src).withSpareLock (tset s.prot.spareLock sp on)
  have within := effect.trans (triggerIf_frame (decide (tget s.prot.spareLock sp ≠ on)) _)
  have locks : requestEffect (s.received src) (.slk sp on) = triggerIf (decide (tget s.prot.spareLock sp ≠ on))
      { s.received src with prot := { (s.received src).prot with spareLock := tset s.prot.spareLock sp on } } := by
    change lockSpare (s.received src) sp on = _
    rw [lockSpare, kept]
  rw [← locks] at within
  rw [h.done (parse_slk sp on) rfl]
  exact answered_done (r := .slk sp on) _ within

/-- A change of the lockout set asks for a triggered announce (R73). -/
theorem Takes.slk_triggers {sp : Spare} {on : Bool} (changes : tget s.prot.spareLock sp ≠ on) :
    (requestArrives s src tgt [13, byte sp.val, byte on.toNat]).line.trigger = true := by
  have running := received_running src h.running
  have changes' : tget (s.received src).prot.spareLock sp ≠ on := by rwa [(received_frame s src).spareLock]
  have trigger : (s.executed src (.slk sp on)).line.trigger = true := by
    change (conclude s (lockSpare (s.received src) sp on)).line.trigger = true
    rw [lockSpare, decide_eq_true changes']
    exact conclude_requestTrigger_trigger s running
  rw [h.done (parse_slk sp on) rfl]
  exact trigger

end

theorem EventFrame.own {s t : State} (f : EventFrame s t) : t.own = s.own := by simp only [State.own, f.straps]

/-- What a spare's place in the lockout set says of its claims and of its use (R97, R98). -/
theorem lockout_of_spareLock {t : State} {sp : Spare} {on : Bool} (lock : tget t.prot.spareLock sp = on) :
    (t.lockClaim ∈ t.ownClaims sp ↔ on = true) ∧ (on = true → t.locallyUsable sp = false) ∧
      (on = true → (∀ p k, (t.prec p).claim = some k → k.cls ≠ .lockout) → t.announcedOn sp = some t.lockClaim) := by
  subst lock
  exact ⟨lockClaim_mem_ownClaims t sp, fun set => by simp [State.locallyUsable, set], announcedOn_of_locked⟩

/-- Settles O57: the lockout claim is the spare's membership of the set, and LOCKOUT outranks every other class. -/
theorem spareLockoutMakesAndWithdrawsItsClaim : Obligations.SpareLockoutMakesAndWithdrawsItsClaim := by
  intro src tgt sp s h on
  have answered := h.slk_answered sp on
  have frame : EventFrame _ _ := answered
  have own : (requestArrives s src tgt [13, byte sp.val, byte on.toNat]).own = s.own := frame.own
  obtain ⟨claim, unusable, announced⟩ := lockout_of_spareLock
    ((congrArg (tget · sp) frame.spareLock).trans (tget_tset_same s.prot.spareLock sp on))
  rw [State.lockClaim, own] at claim announced
  exact ⟨_, exec_of_requestOf s (requestOf_slk src tgt _ on), answered, claim, unusable, announced, h.slk_triggers⟩

end Sys2Proof.Machine
end

section
/-! SUPPORT. The requests that read the state (O51): their parameters, and an answer read from the state they leave. -/

namespace Sys2Proof.Machine

/-! ## The parameters of the reads (12.2) -/

theorem parse_view (n : Station) : parse [2, byte n.val] = some (.view n) := by
  change (finOf 32 (byte n.val)).map Request.view = _
  rw [finOf_byte (by decide) n]
  rfl

theorem parse_port1 (p : Port) : parse [3, byte p.val, 1] = some (.portPart p false) := by
  change (finOf 16 (byte p.val)).bind (fun p => some (Request.portPart p false)) = _
  rw [finOf_byte (by decide) p]
  rfl

theorem parse_port2 (p : Port) : parse [3, byte p.val, 2] = some (.portPart p true) := by
  change (finOf 16 (byte p.val)).bind (fun p => some (Request.portPart p true)) = _
  rw [finOf_byte (by decide) p]
  rfl

theorem parse_spar (sp : Spare) : parse [4, byte sp.val] = some (.spar sp) := by
  change (finOf 4 (byte sp.val)).map Request.spar = _
  rw [finOf_byte (by decide) sp]
  rfl

theorem parse_timgCand (c : Cand) : parse [5, byte (c.val + 1)] = some (.timgCand c) := by
  have positive : (byte (c.val + 1)).toNat ≠ 0 := by rw [toNat_byte (by omega)]; omega
  change (if (byte (c.val + 1)).toNat = 0 then _ else (candOf (byte (c.val + 1))).map Request.timgCand) = _
  rw [if_neg positive, candOf_byte]
  rfl

/-! ## The answer -/

/-- The state of an answer before its response joined the queue. -/
theorem respond_withResponses (s : State) (src : Station) (code : Byte) (r : Result) (data : List Byte) :
    (respond s src code r data).withResponses s.line.responses = s := rfl

/-- A request whose effect is none is answered from the state it leaves, the response not yet in the queue (R180). -/
theorem Takes.read_answered {s : State} {src : Station} {tgt : BitVec 6} (h : Takes s src tgt) {code : Byte}
    {params : List Byte} {r : Request} (parsed : parse (code :: params) = some r)
    (accepted : (s.received src).refusal r = none) (reads : requestEffect (s.received src) r = s.received src) :
    let t := requestArrives s src tgt (code :: params)
    Answered s s t src (code :: 0 :: requestData (s.received src) (t.withResponses s.line.responses) r) := by
  have waiting : (s.executed src r).line.responses = s.line.responses := by
    rw [State.executed, reads]
    exact ((received_frame s src).trans (conclude_frame s _)).responses
  have left : (requestArrives s src tgt (code :: params)).withResponses s.line.responses = s.executed src r := by
    rw [h.done parsed accepted, ← waiting, respond_withResponses]
  dsimp only
  rw [left]
  exact h.done_answered parsed accepted (by rw [reads]; exact .refl _)

/-! ## The size of STAT's data (R182) -/

theorem length_bytesOfBits (n : Nat) (bs : List Bool) : (bytesOfBits n bs).length = n := by
  induction n generalizing bs with
  | zero => rfl
  | succ n ih => exact congrArg (· + 1) (ih _)

theorem length_statData (s : State) : (statData s).length = 44 := by
  have points : stationPoints.length = 11 := by decide
  simp [statData, State.queueBytes, State.sweepBytes, Summary.bytes, State.pointBytes, setBytes, u8, u16, u32, opt8,
    bool1, length_bytesOfBits, points]

/-- Settles O51: each read is DONE, and its data are those of the state it leaves. -/
theorem readRequestsAnswerTheState : Obligations.ReadRequestsAnswerTheState := fun _ _ s h =>
  ⟨⟨_, exec_of_requestOf s rfl, h.read_answered (r := .stat) rfl rfl rfl, length_statData _⟩,
    fun n => ⟨_, exec_of_requestOf s rfl, h.read_answered (r := .view n) (parse_view n) rfl rfl⟩,
    fun p => ⟨_, exec_of_requestOf s rfl, h.read_answered (r := .portPart p false) (parse_port1 p) rfl rfl⟩,
    fun p => ⟨_, exec_of_requestOf s rfl, h.read_answered (r := .portPart p true) (parse_port2 p) rfl rfl⟩,
    fun sp => ⟨_, exec_of_requestOf s rfl, h.read_answered (r := .spar sp) (parse_spar sp) rfl rfl⟩,
    ⟨_, exec_of_requestOf s rfl, h.read_answered (r := .timgStation) rfl rfl rfl⟩,
    fun c => ⟨_, exec_of_requestOf s rfl, h.read_answered (r := .timgCand c) (parse_timgCand c) rfl rfl⟩⟩

end Sys2Proof.Machine
end

section
/-! SUPPORT. The checks of R179 in their order (O50): the parameters that are out of range, the two requests that ALL may
carry, and what a request leaves that is discarded or refused. -/

namespace Sys2Proof.Machine

/-! ## Parameter bytes out of range (12.2) -/

theorem finOf_eq_none {n : Nat} {b : Byte} (h : below n b = false) : finOf n b = none :=
  dif_neg (of_decide_eq_false h)

theorem boolOf_eq_none {b : Byte} (h : below 2 b = false) : boolOf b = none := by
  have large : ¬b.toNat < 2 := of_decide_eq_false h
  unfold boolOf
  split
  · omega
  · omega
  · rfl

theorem modeOf_eq_none {b : Byte} (h : below 2 b = false) : modeOf b = none := by
  rw [modeOf, boolOf_eq_none h]; rfl

theorem optOf_eq_none {n : Nat} {b : Byte} (h : below n b = false) (named : b ≠ 255) : optOf n b = none := by
  have notAny : b.toNat ≠ 255 := fun any => named (BitVec.eq_of_toNat_eq any)
  rw [optOf, if_neg notAny, finOf_eq_none h]; rfl

theorem candOf_eq_none {b : Byte} (h : candByte b = false) : candOf b = none := by
  unfold candOf
  split
  · rfl
  · next positive =>
    have large : ¬b.toNat ≤ 7 := by simpa [candByte, Nat.one_le_iff_ne_zero, positive] using h
    have less : (b - 1).toNat = b.toNat - 1 := BitVec.toNat_sub_of_le (BitVec.le_def.2 (by
      change 1 ≤ b.toNat; omega))
    exact dif_neg (by omega)

theorem optOf_of_pswTarget {b : Byte} (h : pswTarget b = false) : optOf 4 b = none := by
  obtain ⟨large, named⟩ := Bool.or_eq_false_iff.1 h
  exact optOf_eq_none large fun any => by subst any; exact absurd named (by decide)

/-- A request of more parameters is none where its first is out of range, or the rest after it. -/
theorem bind_eq_none_of {α β : Type} {o : Option α} {f : α → Option β} (h : o = none ∨ ∀ a, f a = none) :
    o.bind f = none :=
  Option.bind_eq_none_iff.2 fun a found => h.elim (fun none => absurd (none.symm.trans found) nofun) (· a)

theorem map_eq_none_of {α β : Type} {o : Option α} {f : α → β} (h : o = none) : o.map f = none := by
  rw [h]; rfl

theorem parse_timg_eq_none {c : Byte} (h : below 8 c = false) : parse [5, c] = none := by
  have large : ¬c.toNat < 8 := of_decide_eq_false h
  have off : candByte c = false := by simp [candByte]; omega
  change (if c.toNat = 0 then _ else (candOf c).map Request.timgCand) = _
  rw [if_neg (by omega), candOf_eq_none off]
  rfl

theorem swpStartOf_eq_none {sp m n k f : Byte}
    (h : (below 4 sp && below 2 m && below 17 n && below 2 k && (below 16 f || f == 255)) = false) :
    swpStartOf sp m n k f = none := by
  simp only [Bool.and_eq_false_iff, Bool.or_eq_false_iff, beq_eq_false_iff_ne] at h
  rcases h with (((spare | mode) | count) | again) | ⟨port, named⟩
  · exact bind_eq_none_of (.inl (finOf_eq_none spare))
  · exact bind_eq_none_of (.inr fun _ => bind_eq_none_of (.inl (modeOf_eq_none mode)))
  · exact bind_eq_none_of (.inr fun _ => bind_eq_none_of (.inr fun _ => bind_eq_none_of (.inl (finOf_eq_none count))))
  · exact bind_eq_none_of (.inr fun _ => bind_eq_none_of (.inr fun _ => bind_eq_none_of (.inr fun _ =>
      bind_eq_none_of (.inl (boolOf_eq_none again)))))
  · exact bind_eq_none_of (.inr fun _ => bind_eq_none_of (.inr fun _ => bind_eq_none_of (.inr fun _ =>
      bind_eq_none_of (.inr fun _ => map_eq_none_of (optOf_eq_none port named)))))

/-- Parameters outside their ranges make no request (R181), but for LRN's 255, which is LRN ALL (12.2). -/
theorem parse_eq_none {c : Instr} {src : Station} {tgt : BitVec 6} {payload : List Byte}
    (row : requestOf c = some (src, tgt, payload)) (target : targetOk tgt = true) (bad : c.wellFormed = false)
    (notAll : c ≠ .lrn src tgt 255) : parse payload = none := by
  cases c with
  | view _ _ n | spar _ _ n =>
    cases row
    simp only [Instr.wellFormed, target, Bool.true_and] at bad
    exact map_eq_none_of (finOf_eq_none bad)
  | port _ _ p part =>
    cases row
    simp only [Instr.wellFormed, target, Bool.true_and, Bool.and_eq_false_iff, Bool.or_eq_false_iff,
      beq_eq_false_iff_ne] at bad
    refine bind_eq_none_of (bad.imp finOf_eq_none fun off _ => ?_)
    split
    · next one => exact absurd (BitVec.eq_of_toNat_eq one) off.1
    · next two => exact absurd (BitVec.eq_of_toNat_eq two) off.2
    · rfl
  | timg _ _ c =>
    cases row
    simp only [Instr.wellFormed, target, Bool.true_and] at bad
    exact parse_timg_eq_none bad
  | lrn _ _ r =>
    cases row
    simp only [Instr.wellFormed, target, Bool.true_and] at bad
    have one : r.toNat ≠ 255 := fun all => notAll (by rw [BitVec.eq_of_toNat_eq (y := (255 : Byte)) all])
    exact (if_neg one).trans (map_eq_none_of (finOf_eq_none bad))
  | maskOn _ _ x | maskOff _ _ x | slkOn _ _ x | slkOff _ _ x | pswLockout _ _ x | pswClear _ _ x =>
    cases row
    simp only [Instr.wellFormed, target, Bool.true_and] at bad
    exact bind_eq_none_of (.inl (finOf_eq_none bad))
  | pswForce _ _ p x | pswManual _ _ p x =>
    cases row
    simp only [Instr.wellFormed, target, Bool.true_and, Bool.and_eq_false_iff] at bad
    exact bind_eq_none_of (bad.imp finOf_eq_none fun off _ => map_eq_none_of (optOf_of_pswTarget off))
  | trefForce _ _ c | trefLockoutOn _ _ c | trefLockoutOff _ _ c =>
    cases row
    simp only [Instr.wellFormed, target, Bool.true_and] at bad
    exact map_eq_none_of (candOf_eq_none bad)
  | swpStart _ _ sp m n k f =>
    cases row
    simp only [Instr.wellFormed, target, Bool.true_and] at bad
    exact swpStartOf_eq_none bad
  | pairClear _ _ p sp =>
    cases row
    simp only [Instr.wellFormed, target, Bool.true_and, Bool.and_eq_false_iff] at bad
    exact bind_eq_none_of (bad.imp finOf_eq_none fun off _ => map_eq_none_of (finOf_eq_none off))
  | _ => simp_all [requestOf, Instr.wellFormed]

/-! ## The two requests that ALL may carry (R179) -/

/-- ACO and CLRL. -/
def Request.forAll : Request → Bool
  | .aco => true
  | .clrl => true
  | _ => false

theorem code_of_parse0_forAll {code : Nat} {r : Request} (h : parse0 code = some r) (all : r.forAll = true) :
    code = 10 ∨ code = 11 := by
  unfold parse0 at h
  split at h <;> cases h <;> simp_all [Request.forAll]

theorem parse1_notForAll {code : Nat} {a : Byte} {r : Request} (h : parse1 code a = some r) : r.forAll = false := by
  unfold parse1 at h
  split at h
  case h_1 | h_2 => obtain ⟨_, -, rfl⟩ := Option.map_eq_some_iff.1 h; rfl
  case h_3 | h_5 =>
    split at h
    · cases h; rfl
    · obtain ⟨_, -, rfl⟩ := Option.map_eq_some_iff.1 h; rfl
  case h_4 => cases h; rfl
  case h_6 => cases h

theorem parse2_notForAll {code : Nat} {a b : Byte} {r : Request} (h : parse2 code a b = some r) : r.forAll = false := by
  unfold parse2 at h
  split at h
  case h_1 =>
    obtain ⟨_, -, h⟩ := Option.bind_eq_some_iff.1 h
    split at h
    case h_3 => cases h
    all_goals cases h; rfl
  case h_2 | h_3 | h_5 =>
    obtain ⟨_, -, h⟩ := Option.bind_eq_some_iff.1 h
    obtain ⟨_, -, rfl⟩ := Option.map_eq_some_iff.1 h
    rfl
  case h_4 =>
    split at h
    case h_2 => cases h; rfl
    case h_5 => cases h
    all_goals obtain ⟨_, -, rfl⟩ := Option.map_eq_some_iff.1 h; rfl
  case h_6 => cases h

theorem parse3_notForAll {code : Nat} {a b c : Byte} {r : Request} (h : parse3 code a b c = some r) :
    r.forAll = false := by
  unfold parse3 at h
  split at h
  · obtain ⟨_, -, h⟩ := Option.bind_eq_some_iff.1 h
    split at h
    case h_1 | h_2 => obtain ⟨_, -, rfl⟩ := Option.map_eq_some_iff.1 h; rfl
    case h_3 | h_4 => cases h; rfl
    case h_5 => cases h
  · cases h

theorem parse6_notForAll {code : Nat} {a sp m n k f : Byte} {r : Request} (h : parse6 code a sp m n k f = some r) :
    r.forAll = false := by
  unfold parse6 at h
  split at h
  · split at h
    case h_1 =>
      simp only [swpStartOf, Option.bind_eq_some_iff, Option.map_eq_some_iff] at h
      obtain ⟨_, -, _, -, _, -, _, -, _, -, rfl⟩ := h
      rfl
    case h_2 | h_3 => cases h; rfl
    case h_4 => cases h
  · cases h

theorem payload_of_forAll {payload : List Byte} {r : Request} (h : parse payload = some r) (all : r.forAll = true) :
    payload = [10] ∨ payload = [11] := by
  unfold parse at h
  split at h
  · next code =>
    refine (code_of_parse0_forAll h all).imp (fun clrl => ?_) fun aco => ?_
    · rw [BitVec.eq_of_toNat_eq (y := (10 : Byte)) clrl]
    · rw [BitVec.eq_of_toNat_eq (y := (11 : Byte)) aco]
  · rw [parse1_notForAll h] at all; cases all
  · rw [parse2_notForAll h] at all; cases all
  · rw [parse3_notForAll h] at all; cases all
  · rw [parse6_notForAll h] at all; cases all
  · cases h

/-! ## The checks (R179) -/

theorem takeForAll_discarded {s0 s : State} {src : Station} {payload : List Byte}
    (barred : src.val < 30 ∨ s.startUp = true ∨ payload ≠ [10] ∧ payload ≠ [11]) :
    takeForAll s0 s src payload = conclude s0 s := by
  have notForAll : isCraft src = true → s.startUp = false → ∀ r, parse payload = some r → r.forAll = false := by
    intro craft started r parsed
    have other : payload ≠ [10] ∧ payload ≠ [11] :=
      (barred.resolve_left (Nat.not_lt.2 (of_decide_eq_true craft))).resolve_left (by simp [started])
    refine Bool.eq_false_of_not_eq_true fun all => ?_
    exact (payload_of_forAll parsed all).elim other.1 other.2
  unfold takeForAll
  split
  · next passed =>
    obtain ⟨craft, started⟩ := Bool.and_eq_true_iff.1 passed
    split
    · next parsed => exact absurd (notForAll craft (by simpa using started) _ parsed) (by decide)
    · next parsed => exact absurd (notForAll craft (by simpa using started) _ parsed) (by decide)
    · rfl
  · rfl

/-- A request that passes R37 at a settled station that hears is handed on. -/
theorem requestArrives_handed {s : State} {src : Station} {tgt : BitVec 6} {payload : List Byte}
    (hearing : s.hearing = true) (other : src ≠ s.own) (target : targetOk tgt = true) (coded : payload ≠ []) :
    requestArrives s src tgt payload = handRequest s (lineQuiet s) src tgt payload := by
  unfold requestArrives
  rw [if_pos (by simp [hearing, target, other, coded])]

theorem requestArrives_unheard {s : State} {src : Station} {tgt : BitVec 6} {payload : List Byte}
    (deaf : s.hearing = false) : requestArrives s src tgt payload = lineQuiet s := by
  unfold requestArrives
  rw [if_neg (by simp [deaf])]

/-- To the station itself it comes to the Request Handler. -/
theorem handRequest_own {s : State} {src : Station} {tgt : BitVec 6} (payload : List Byte)
    (own : tgt.toNat = s.own.val) :
    handRequest s (lineQuiet s) src tgt payload = takeRequest s (s.received src) src false payload := by
  have notAll : tgt.toNat ≠ 63 := by have := s.own.isLt; omega
  unfold handRequest
  dsimp only
  rw [if_neg notAll, if_pos (show tgt.toNat = (lineQuiet s).own.val from own)]
  rfl

theorem handRequest_all {s : State} {src : Station} {tgt : BitVec 6} (payload : List Byte) (all : tgt.toNat = 63) :
    handRequest s (lineQuiet s) src tgt payload = takeRequest s (s.received src) src true payload := by
  unfold handRequest
  dsimp only
  rw [if_pos all]
  rfl

/-- The start-up period may go over to listening at the refresh of a sender, and does not end there. -/
theorem received_startUp {s : State} (src : Station) (settled : s.settled = true) (early : s.phase ≠ .running) :
    (s.received src).startUp = true := by
  have before : s.phase = .readback ∨ s.phase = .listening := by
    unfold State.settled at settled
    split at settled <;> simp_all
  rcases (received_frame s src).phase with same | ⟨-, listens⟩
  · have same : (s.received src).phase = s.phase := same
    rcases before with phase | phase <;> simp [State.startUp, same, phase]
  · simp [State.startUp, listens]

/-- What R179 discards for a restart pending, a full response queue, or a request that ALL does not carry. -/
theorem takeRequest_discarded {s0 s : State} {src : Station} {all : Bool} {payload : List Byte}
    (barred : s.restartPending = true ∨ all = false ∧ 2 ≤ s.line.responses.length ∨
      all = true ∧ (src.val < 30 ∨ s.startUp = true ∨ payload ≠ [10] ∧ payload ≠ [11])) :
    takeRequest s0 s src all payload = conclude s0 s := by
  unfold takeRequest
  dsimp only
  rcases barred with pending | ⟨rfl, full⟩ | ⟨rfl, barred⟩
  · rw [if_pos pending]
  · split
    · rfl
    · rfl
  · split
    · rfl
    · rw [if_pos rfl, takeForAll_discarded barred]

theorem takeRequest_notCraft {s0 s : State} {src : Station} {payload : List Byte} (free : s.restartPending = false)
    (room : s.line.responses.length < 2) (low : src.val < 30) :
    takeRequest s0 s src false payload = respond (conclude s0 s) src (payload.headD 0) .notcraft [] := by
  have full : ¬2 ≤ s.line.responses.length := Nat.not_le.2 room
  have notCraft : isCraft src = false := decide_eq_false (by omega)
  simp [takeRequest, free, full, notCraft]

theorem takeRequest_startUp {s0 s : State} {src : Station} {payload : List Byte} (free : s.restartPending = false)
    (room : s.line.responses.length < 2) (craft : 30 ≤ src.val) (early : s.startUp = true) :
    takeRequest s0 s src false payload = respond (conclude s0 s) src (payload.headD 0) .state [] := by
  have full : ¬2 ≤ s.line.responses.length := Nat.not_le.2 room
  simp [takeRequest, free, full, isCraft, craft, early]

theorem takeRequest_range {s0 s : State} {src : Station} {payload : List Byte} (free : s.restartPending = false)
    (room : s.line.responses.length < 2) (craft : 30 ≤ src.val) (started : s.startUp = false)
    (off : parse payload = none) :
    takeRequest s0 s src false payload = respond (conclude s0 s) src (payload.headD 0) .range [] := by
  have full : ¬2 ≤ s.line.responses.length := Nat.not_le.2 room
  simp [takeRequest, free, full, isCraft, craft, started, off]

/-! ## What a discarded and a refused request leave -/

theorem received_onlyRefreshes (s : State) (src : Station) : NothingAsked s (conclude s (s.received src)) ∧
    EventFrame { s with peers := s.heardFrom src, line := s.lineAfter s.line.responses }
      (conclude s (s.received src)) :=
  ⟨(received_unasked s src).conclude (received_alm s src), (received_frame s src).trans (conclude_frame s _)⟩

theorem refresh_onlyRefreshes (s : State) (src : Station) : NothingAsked s (conclude s (refresh (lineQuiet s) src)) ∧
    EventFrame { s with peers := s.heardFrom src, line := s.lineAfter s.line.responses }
      (conclude s (refresh (lineQuiet s) src)) :=
  ⟨Unasked.conclude (Unasked.trans {} (refresh_unasked (lineQuiet s) src)) (triggerIf_alm _ _),
    refresh_arrival_frame s src⟩

/-- A refusal adds its response, and nothing else to the refresh. -/
theorem refused_asksNothing (s : State) (src : Station) (code : Byte) (r : Result) :
    NothingAsked s (respond (conclude s (s.received src)) src code r []) ∧
      Answered s s (respond (conclude s (s.received src)) src code r []) src [code, byte r.code] := by
  obtain ⟨asks, frame⟩ := received_onlyRefreshes s src
  exact ⟨asks.respond src code r [], frame.withResponse ⟨src, [code, byte r.code]⟩⟩

/-- A request that is for another station, or that the Request Handler discards, only refreshes its sender. -/
theorem discarded_onlyRefreshes {s : State} {src : Station} {tgt : BitVec 6} {payload : List Byte}
    (settled : s.settled = true)
    (barred : s.restartPending = true ∨ (tgt.toNat ≠ 63 ∧ tgt.toNat ≠ s.own.val) ∨
      tgt.toNat = s.own.val ∧ 2 ≤ s.line.responses.length ∨
      tgt.toNat = 63 ∧ (src.val < 30 ∨ s.phase ≠ .running ∨ payload ≠ [10] ∧ payload ≠ [11])) :
    let t := handRequest s (lineQuiet s) src tgt payload
    NothingAsked s t ∧
      EventFrame { s with peers := s.heardFrom src, line := s.lineAfter s.line.responses } t := by
  have frame := received_frame s src
  have pending : (s.received src).restartPending = s.restartPending := frame.restartPending
  have waiting : (s.received src).line.responses = s.line.responses := frame.responses
  have own := s.own.isLt
  dsimp only
  by_cases all : tgt.toNat = 63
  · rw [handRequest_all payload all, takeRequest_discarded]
    · exact received_onlyRefreshes s src
    · rcases barred with restart | elsewhere | ⟨toOwn, -⟩ | ⟨-, barred⟩
      · exact .inl (pending.trans restart)
      · exact absurd all elsewhere.1
      · omega
      · exact .inr (.inr ⟨rfl, barred.imp_right (Or.imp_left (received_startUp src settled))⟩)
  by_cases toOwn : tgt.toNat = s.own.val
  · rw [handRequest_own payload toOwn, takeRequest_discarded]
    · exact received_onlyRefreshes s src
    · rcases barred with restart | elsewhere | ⟨-, full⟩ | ⟨toAll, -⟩
      · exact .inl (pending.trans restart)
      · exact absurd toOwn elsewhere.2
      · exact .inr (.inl ⟨rfl, waiting.symm ▸ full⟩)
      · exact absurd toAll all
  · rw [handRequest_elsewhere (s := lineQuiet s) payload (fun toAll => all (by rw [toAll]; rfl)) toOwn]
    exact refresh_onlyRefreshes s src

theorem payload_of_requestOf {c : Instr} {src : Station} {tgt : BitVec 6} {payload : List Byte}
    (row : requestOf c = some (src, tgt, payload)) : payload ≠ [] := by
  cases c <;> cases row <;> exact List.cons_ne_nil _ _

theorem EventFrame.withRestartPending {s t : State} (f : EventFrame s t) (b : Bool) :
    EventFrame { s with restartPending := b } { t with restartPending := b } := { f with restartPending := rfl }

/-- Settles O50: the handing on by target, then each check of R179 with what passed the ones before it. -/
theorem requestsAreJudgedInOrder : Obligations.RequestsAreJudgedInOrder := by
  intro c src tgt payload s row
  have runs := exec_of_requestOf s row
  have coded := payload_of_requestOf row
  have frame := received_frame s src
  have pending : (s.received src).restartPending = s.restartPending := frame.restartPending
  have waiting : (s.received src).line.responses.length = s.line.responses.length := congrArg _ frame.responses
  refine ⟨fun deaf => ?_, fun settled rx other target => ⟨fun barred => ?_, fun free own room => ⟨fun low => ?_,
    fun craft early => ?_⟩⟩, fun takes => ⟨fun ⟨bad, notAll⟩ => ?_, fun rsta => ?_⟩⟩
  · rw [runs, requestArrives_unheard]
    · rfl
    · rcases deaf with unsettled | ignoring <;> simp [State.hearing, *]
  · rw [runs, requestArrives_handed (hearing_of settled rx) other target coded]
    exact ⟨_, rfl, discarded_onlyRefreshes settled barred⟩
  · rw [runs, requestArrives_handed (hearing_of settled rx) other target coded, handRequest_own payload own,
      takeRequest_notCraft (pending.trans free) (waiting.trans_lt room) low]
    exact ⟨_, rfl, refused_asksNothing s src _ .notcraft⟩
  · rw [runs, requestArrives_handed (hearing_of settled rx) other target coded, handRequest_own payload own,
      takeRequest_startUp (pending.trans free) (waiting.trans_lt room) craft (received_startUp src settled early)]
    exact ⟨_, rfl, refused_asksNothing s src _ .state⟩
  · obtain ⟨running, rx, free, room, craft, other, own⟩ := takes
    have small := s.own.isLt
    have target : targetOk tgt = true := by simp [targetOk]; omega
    have settled : s.settled = true := by simp [State.settled, running]
    have started : (s.received src).startUp = false := by simp [State.startUp, received_running src running]
    rw [runs, requestArrives_handed (hearing_of settled rx) other target coded, handRequest_own payload own,
      takeRequest_range (pending.trans free) (waiting.trans_lt room) craft started
        (parse_eq_none row target bad notAll)]
    exact ⟨_, rfl, refused_asksNothing s src _ .range⟩
  · subst rsta
    cases row
    refine ⟨_, runs, ?_⟩
    rw [takes.done (r := .rsta) rfl rfl]
    exact answered_done (r := .rsta) [] (frame.withRestartPending true)

end Sys2Proof.Machine
end

section
/-! SUPPORT. The end of the listen period (O10): the records placed one after another, and a placed record on which nothing
acts at the end of the event. -/

namespace Sys2Proof.Machine

/-! ## The records placed (R85) -/

/-- The record of a port as it is placed. -/
def State.placedRec (s : State) (p : Port) : PortRec :=
  match (s.prec p).claim with
  | some k =>
    { s.prec p with
      state := if s.placedClass p = .wtr then .wtr else .switched
      wtr := if s.placedClass p = .wtr then some (6000 * s.config.wtr) else none
      claim := some { k with cls := s.placedClass p }
      firstCause := some (s.placedClass p, s.freq.seconds) }
  | none => s.prec p

theorem placeRecord_prec (s : State) (p q : Port) :
    (placeRecord s p).prec q = if p = q then s.placedRec q else s.prec q := by
  unfold placeRecord State.placedRec
  split
  · next k claim =>
    rw [updRec_prec]
    split
    · next same => subst same; rw [claim]
    · rfl
  · next none =>
    split
    · next same => subst same; rw [none]
    · rfl

theorem placeRecord_frame (s : State) (p : Port) : EventFrame s (placeRecord s p) := by
  unfold placeRecord
  split
  · exact updRec_frame s p _
  · exact .refl s

/-- One port's placing does not reach another's. -/
theorem placeRecord_placedRec (s : State) {p q : Port} (other : p ≠ q) :
    (placeRecord s p).placedRec q = s.placedRec q := by
  have frame := placeRecord_frame s p
  have prec : (placeRecord s p).prec q = s.prec q := by rw [placeRecord_prec, if_neg other]
  have cls : (placeRecord s p).placedClass q = s.placedClass q := by
    simp only [State.placedClass, frame.sf, frame.sd]
  rw [State.placedRec, State.placedRec, prec, cls, frame.config, frame.seconds]

theorem foldl_placeRecord_prec {l : List Port} (nodup : l.Nodup) (s : State) (q : Port) :
    (l.foldl placeRecord s).prec q = if q ∈ l then s.placedRec q else s.prec q := by
  induction l generalizing s with
  | nil => simp
  | cons p l ih =>
    obtain ⟨fresh, nodup⟩ := List.nodup_cons.1 nodup
    rw [List.foldl_cons, ih nodup]
    by_cases same : p = q
    · subst same; simp [fresh, placeRecord_prec]
    · simp [placeRecord_prec, same, Ne.symm same, placeRecord_placedRec]

/-- The station as the listen period ends, its records placed. -/
def State.listenEnded (s : State) : State :=
  (idx 16).foldl placeRecord { s with phase := .running, listenTimer := none }

theorem listenEnded_prec (s : State) (q : Port) : s.listenEnded.prec q = s.placedRec q := by
  have placed := foldl_placeRecord_prec (List.nodup_finRange 16) { s with phase := .running, listenTimer := none } q
  rw [if_pos (List.mem_finRange q)] at placed
  exact placed

theorem listenEnded_frame (s : State) :
    EventFrame { s with phase := .running, listenTimer := none } s.listenEnded :=
  foldl_frame placeRecord placeRecord_frame (idx 16) _

/-- Nothing outside the records is written at their placing. -/
theorem placeRecord_field {β : Type} (g : State → β) (written : ∀ s p r, g (s.setPrec p r) = g s) (s : State) (p : Port) :
    g (placeRecord s p) = g s := by
  unfold placeRecord
  split
  · exact written s p _
  · rfl

theorem listenEnded_field {β : Type} (g : State → β) (written : ∀ s p r, g (s.setPrec p r) = g s) (s : State) :
    g s.listenEnded = g { s with phase := .running, listenTimer := none } :=
  foldl_field g (placeRecord_field g written) (idx 16) _

theorem placedRec_kept (s : State) (p : Port) :
    (s.placedRec p).selection = (s.prec p).selection ∧ (s.placedRec p).command = (s.prec p).command ∧
      (s.placedRec p).lockout = (s.prec p).lockout ∧ (s.placedRec p).transfer = (s.prec p).transfer := by
  unfold State.placedRec
  split
  · exact ⟨rfl, rfl, rfl, rfl⟩
  · exact ⟨rfl, rfl, rfl, rfl⟩

theorem placedRec_of_claim {s : State} {p : Port} {k : Claim} (claim : (s.prec p).claim = some k) : s.placedRec p =
    { s.prec p with
      state := if s.placedClass p = .wtr then .wtr else .switched
      wtr := if s.placedClass p = .wtr then some (6000 * s.config.wtr) else none
      claim := some { k with cls := s.placedClass p }
      firstCause := some (s.placedClass p, s.freq.seconds) } := by
  rw [State.placedRec, claim]

/-! ## A record on which nothing acts (R74, R80, R82) -/

/-- A record waits alone in SWITCHED of its request's class, or in WTR without a request, and nothing acts on it: every other
record is idle, no command, lockout or transfer is its own, its spare is usable, and no other claim or demand is on it. -/
structure Waiting (s : State) (p : Port) (k : Claim) : Prop where
  running : s.phase = .running
  heard : s.cutOff = false
  idle : ∀ q, q ≠ p → (s.prec q).state = .idle ∧ (s.prec q).claim = none ∧ s.standing q = none
  step : s.exr.step = none
  demands : ∀ sp, tget s.prot.demands sp = none
  claim : (s.prec p).claim = some k
  transfer : (s.prec p).transfer = none
  command : (s.prec p).command = .none
  lockout : (s.prec p).lockout = false
  waits : (s.prec p).state = .switched ∧ s.standing p = some k.cls ∨ (s.prec p).state = .wtr ∧ s.standing p = none
  usable : s.usableFor p k.spare = true
  peers : s.peerView k.spare = []

namespace Waiting

variable {s : State} {p : Port} {k : Claim} (h : Waiting s p k)
include h

/-- Its own claim is all there is in the view of its spare (R89). -/
theorem eq_of_mem_viewOf {e : ViewEntry} (mem : e ∈ s.viewOf k.spare) : e = s.ownEntry p.val k.cls k.settled .own := by
  have unlocked : tget s.prot.spareLock k.spare = false := by
    have usable := h.usable
    simp only [State.usableFor, State.locallyUsable, Bool.and_eq_true, Bool.not_eq_true'] at usable
    exact usable.1.2
  have undemanded : s.demandEntry k.spare = [] := by simp [State.demandEntry, h.demands]
  rw [State.viewOf, h.peers, undemanded, List.append_nil, List.append_nil, mem_ownClaims] at mem
  rcases mem with ⟨q, mem⟩ | mem | mem
  · by_cases same : q = p
    · subst same
      simpa [State.recordEntries, h.claim, h.transfer] using mem
    · simp [State.recordEntries, (h.idle q same).2.1] at mem
  · simp [State.exerciseEntry, h.step] at mem
  · simp [mem_lockEntry, unlocked] at mem

/-- Its claim does not rank above itself (R88, R95). -/
theorem causeOn_eq : s.causeOn p k.spare k.cls = false := by
  have highest : s.preempted k.spare p.val k.cls = false := List.any_eq_false.2 fun e mem => by
    rw [h.eq_of_mem_viewOf mem]
    simp [ViewEntry.outranks, State.ownEntry]
  simp [State.causeOn, h.usable, highest]

theorem handleRequest_eq (q : Port) : handleRequest s q = s := by
  by_cases same : q = p
  · subst same
    unfold handleRequest
    rcases h.waits with ⟨switched, request⟩ | ⟨wtr, request⟩
    · rw [switched]
      simp [requestSwitched, request, h.claim, setClass, h.transfer]
    · rw [wtr]
      simp [requestWtr, request, h.lockout]
  · obtain ⟨idle, -, request⟩ := h.idle q same
    simp [handleRequest, idle, requestIdle, request]

theorem releaseRecord_eq (q : Port) : releaseRecord s q = s := by
  by_cases same : q = p
  · subst same
    unfold releaseRecord
    rcases h.waits with ⟨state, -⟩ | ⟨state, -⟩
    · simp [h.claim, state, releaseSwitched, h.transfer, h.heard, h.causeOn_eq]
    · simp [h.claim, state, h.heard, h.causeOn_eq]
  · simp [releaseRecord, (h.idle q same).2.1]

theorem choosing_eq (q : Port) : (dropDemands s).choosing q = false := by
  have same : (dropDemands s).choosing q = s.choosing q := rfl
  rw [same]
  by_cases same : q = p
  · subst same
    have unnamed : s.named q = none := by
      unfold State.named
      rw [h.command]
      split <;> simp_all
    rcases h.waits with ⟨state, -⟩ | ⟨state, -⟩ <;> simp [State.choosing, state, unnamed]
  · simp [State.choosing, (h.idle q same).1]

/-- The Protection Engine finds nothing to do but to note the requests. -/
theorem protectAll_eq : protectAll s = noteRequests (dropDemands s) := by
  have handled : (idx 16).foldl handleRequest s = s := List.foldl_fixed' h.handleRequest_eq _
  have busy : stepPortBusy s = s := by rw [stepPortBusy, h.step]
  have kept : (idx 16).foldl releaseRecord s = s := List.foldl_fixed' h.releaseRecord_eq _
  have goesOn : stepRelease s = s := by rw [stepRelease, h.step]
  have chosen : (dropDemands s).requestOrder.foldl chooseRecord (dropDemands s) = dropDemands s :=
    List.foldl_fixed' (fun q => if_neg (by simp [h.choosing_eq q])) _
  rw [protectAll, handled, busy, releaseAll, kept, goesOn, chooseAll]
  exact congrArg noteRequests chosen

/-- After the event the record stands as it did, its request noted. -/
theorem conclude_unnoted (s0 : State) (q : Port) : ((conclude s0 s).prec q).unnoted = (s.prec q).unnoted := by
  have prot : (conclude s0 s).prot = (requestPart s (noteRequests (dropDemands s))).prot := by
    rw [conclude_prot, handOn_running s h.running, timing_prot, arbitrate_prot, protect,
      if_pos (by simp [State.running, h.running]), h.protectAll_eq]
  rw [State.prec, prot]
  exact requestPart_unnoted (noteRequests_unnoted (dropDemands s) q)

end Waiting

/-! ## The event (R205) -/

/-- The unheard test writes the peer view alone. -/
theorem unheardEval_rest (s : State) : (unheardEval s).prot = s.prot ∧ (unheardEval s).drv = s.drv ∧
    (unheardEval s).exr = s.exr ∧ (unheardEval s).alm = s.alm ∧ (unheardEval s).listenTimer = s.listenTimer ∧
    (unheardEval s).phase = s.phase := by
  unfold unheardEval
  split
  · exact ⟨rfl, rfl, rfl, rfl, rfl, rfl⟩
  · exact ⟨rfl, rfl, rfl, rfl, rfl, rfl⟩

/-- The station when the unheard test has been evaluated and the first announce is due. -/
def State.started (s : State) : State := requestTrigger (unheardEval s.listenEnded)

/-- The peer view then: the unheard timer as the test says (R64). -/
def State.startedPeers (s : State) : PeerView :=
  { s.peers with unheardTimer := if s.unheardTest then some 100 else none }

theorem execListenEnd_eq {s : State} (phase : s.phase = .listening) (timer : s.listenTimer = some 0) :
    exec .listenEnd s = .next (conclude s s.started) := by
  change execListenEnd s = _
  simp [execListenEnd, phase, timer, State.started, State.listenEnded]

theorem execListenEnd_waits {s : State} (timer : s.listenTimer ≠ some 0) : exec .listenEnd s = .next s := by
  change execListenEnd s = _
  unfold execListenEnd
  split
  · rw [if_neg (by rwa [Bool.not_eq_true, ranOut_eq_false])]
  all_goals rfl

theorem listenEnded_running (s : State) : s.listenEnded.phase = .running :=
  listenEnded_field State.phase (fun _ _ _ => rfl) s

theorem unheardEval_listenEnded {s : State} (heard : s.peers.unheard = false) (idle : s.peers.unheardTimer = none) :
    unheardEval s.listenEnded = { s.listenEnded with peers := s.startedPeers } := by
  have peers : s.listenEnded.peers = s.peers := listenEnded_field State.peers (fun _ _ _ => rfl) s
  have test : s.listenEnded.unheardTest = s.unheardTest := listenEnded_field State.unheardTest (fun _ _ _ => rfl) s
  unfold unheardEval
  rw [if_pos ((running_iff _).2 (listenEnded_running s)), peers, test, heard, idle]
  rfl

theorem started_prec (s : State) (q : Port) : s.started.prec q = s.placedRec q := by
  obtain ⟨prot, -⟩ := unheardEval_rest s.listenEnded
  rw [State.started, State.prec, requestTrigger_prot, prot, ← State.prec, listenEnded_prec]

theorem started_drv (s : State) : s.started.drv = s.drv := by
  obtain ⟨-, drv, -⟩ := unheardEval_rest s.listenEnded
  rw [State.started, requestTrigger_drv, drv, listenEnded_field State.drv (fun _ _ _ => rfl)]

theorem started_exr (s : State) : s.started.exr = s.exr := by
  obtain ⟨-, -, exr, -⟩ := unheardEval_rest s.listenEnded
  rw [State.started, requestTrigger_exr, exr, listenEnded_field State.exr (fun _ _ _ => rfl)]

theorem started_alm (s : State) : s.started.alm = s.alm := by
  obtain ⟨-, -, -, alm, -⟩ := unheardEval_rest s.listenEnded
  rw [State.started, requestTrigger_alm, alm, listenEnded_field State.alm (fun _ _ _ => rfl)]

theorem started_listenTimer (s : State) : s.started.listenTimer = none := by
  obtain ⟨-, -, -, -, listenTimer, -⟩ := unheardEval_rest s.listenEnded
  rw [State.started, requestTrigger_listenTimer, listenTimer, listenEnded_field State.listenTimer (fun _ _ _ => rfl)]

theorem started_demands (s : State) : s.started.prot.demands = s.prot.demands := by
  obtain ⟨prot, -⟩ := unheardEval_rest s.listenEnded
  rw [State.started, requestTrigger_prot, prot, listenEnded_field (fun u => u.prot.demands) (fun _ _ _ => rfl)]

section

variable {s : State} (heard : s.peers.unheard = false) (idle : s.peers.unheardTimer = none)
include heard idle

theorem started_frame : EventFrame
    { s with phase := .running, listenTimer := none, peers := s.startedPeers } s.started := by
  rw [State.started, unheardEval_listenEnded heard idle]
  exact ((listenEnded_frame s).withPeers s.startedPeers).trans (requestTrigger_frame _)

theorem started_running : s.started.phase = .running := (started_frame heard idle).running rfl

theorem started_standing (q : Port) : s.started.standing q = s.standing q := by
  obtain ⟨-, command, lockout, -⟩ := placedRec_kept s q
  have prec := started_prec s q
  exact (started_frame heard idle).standing (by rw [prec]; exact command) (by rw [prec]; exact lockout)

/-- A port that alone waits on a good spare waits there when placed. -/
theorem started_waiting {p : Port} {k : Claim} (quiet : QuietBut { s with phase := .running } p)
    (claim : (s.prec p).claim = some k) (transfer : (s.prec p).transfer = none)
    (command : (s.prec p).command = .none) (lockout : (s.prec p).lockout = false)
    (usable : s.usableFor p k.spare = true) (peers : s.peerView k.spare = []) :
    Waiting s.started p { k with cls := s.placedClass p } := by
  have frame := started_frame heard idle
  have prec := started_prec s
  have standing := started_standing heard idle
  obtain ⟨-, command', lockout', transfer'⟩ := placedRec_kept s p
  have placed := placedRec_of_claim claim
  have others : ∀ q, q ≠ p → s.placedRec q = s.prec q := fun q other => by
    have none : (s.prec q).claim = none := (quiet.idle q other).2.1
    rw [State.placedRec, none]
  refine {
    running := started_running heard idle
    heard := ?_
    idle := fun q other => ?_
    step := (congrArg Exerciser.step (started_exr s)).trans quiet.step
    demands := fun sp => by rw [started_demands]; exact quiet.demands sp
    claim := by rw [prec, placed]
    transfer := by rw [prec, transfer', transfer]
    command := by rw [prec, command', command]
    lockout := by rw [prec, lockout', lockout]
    waits := ?_
    usable := ?_
    peers := ?_ }
  · obtain ⟨isolated, unheard⟩ := quiet.heard
    rw [frame.cutOff]
    exact Bool.or_eq_false_iff.2 ⟨isolated, unheard⟩
  · rw [prec, others q other, standing]
    exact quiet.idle q other
  · rw [prec, placed, standing]
    simp only [State.standing, State.placedClass, lockout, command]
    split
    · simp
    · split <;> simp
  · have pair : s.started.pair p k.spare = s.pair p k.spare := by rw [State.pair, State.dport, started_drv]; rfl
    rw [State.usableFor, frame.locallyUsable, pair]
    exact usable
  · rw [frame.peerView]
    exact peers

end

/-- The first announce is due (R49, R205). -/
theorem conclude_started_trigger (s : State) : (conclude s s.started).line.trigger = true := by
  obtain ⟨-, -, -, -, -, phase⟩ := unheardEval_rest s.listenEnded
  rw [State.started]
  exact conclude_requestTrigger_trigger s (phase.trans (listenEnded_running s))

theorem conclude_started_listenTimer {s : State} (running : s.started.phase = .running) :
    (conclude s s.started).listenTimer = none := by
  rw [conclude_listenTimer, handOn_running _ running, timing_listenTimer, arbitrate_listenTimer, protect_listenTimer,
    started_listenTimer]

theorem conclude_started_kept {s : State} (running : s.started.phase = .running) (p : Port) :
    ((conclude s s.started).prec p).selection = (s.prec p).selection ∧
      ((conclude s s.started).prec p).command = (s.prec p).command := by
  have ended := conclude_unasked s s.started
  obtain ⟨selection, command, -⟩ := placedRec_kept s p
  rw [ended.selection (by rw [running]; decide), ended.command, started_prec]
  exact ⟨selection, command⟩

theorem conclude_started_log {s : State} (running : s.started.phase = .running) :
    ∃ new, (conclude s s.started).alm.log = s.alm.log ++ new := by
  obtain ⟨new, log, -⟩ := conclude_log s running
  exact ⟨new, by rw [log, started_alm]⟩

theorem PortRec.fields_of_unnoted {r r' : PortRec} (h : r.unnoted = r'.unnoted) :
    r.claim = r'.claim ∧ r.firstCause = r'.firstCause ∧ r.state = r'.state ∧ r.wtr = r'.wtr :=
  ⟨(congrArg PortRec.claim h :), (congrArg PortRec.firstCause h :), (congrArg PortRec.state h :),
    (congrArg PortRec.wtr h :)⟩

/-- A record that waits alone is after the event as it was placed. -/
theorem Waiting.conclude_started {s : State} {p : Port} {k k' : Claim} (h : Waiting s.started p k')
    (claim : (s.prec p).claim = some k) :
    let r := (conclude s s.started).prec p
    r.claim = some { k with cls := s.placedClass p } ∧ r.firstCause = some (s.placedClass p, s.freq.seconds) ∧
      r.state = (if s.placedClass p = .wtr then .wtr else .switched) ∧
      r.wtr = (if s.placedClass p = .wtr then some (6000 * s.config.wtr) else none) := by
  have kept := PortRec.fields_of_unnoted (h.conclude_unnoted s p)
  rw [started_prec, placedRec_of_claim claim] at kept
  exact kept

/-- Settles O10: the records are placed one by one, and the event's end finds nothing to do on a record that waits alone. -/
theorem listenPeriodEndsInRunning : Obligations.ListenPeriodEndsInRunning := by
  intro s
  refine ⟨execListenEnd_waits, fun phase timer heard idle => ⟨conclude s s.started, execListenEnd_eq phase timer, ?_⟩⟩
  have running := started_running heard idle
  have frame := (started_frame heard idle).trans (conclude_frame s s.started)
  refine ⟨frame.running rfl, conclude_started_listenTimer running, conclude_started_trigger s, frame.config, frame.scan,
    frame.dec, frame.cap, frame.k, frame.seconds, frame.spareLock, conclude_started_kept running, frame.peers,
    conclude_started_log running, fun p k quiet _ claim transfer command lockout usable peers => ?_⟩
  have waiting := started_waiting heard idle quiet claim transfer command lockout usable peers
  obtain ⟨claim', firstCause, state, wtr⟩ := waiting.conclude_started claim
  exact ⟨claim', firstCause, fun fault => ⟨state.trans (if_neg fault), wtr.trans (if_neg fault)⟩,
    fun clear => ⟨state.trans (if_pos clear), wtr.trans (if_pos clear)⟩⟩

end Sys2Proof.Machine
end
